-- ==== Sys2Proof/Word.lean ====
section
/-! DEFINITION. The word types of the machine (spec/00 R7, R8): bytes, 16-bit instruction words, the 22 program counter bits,
register numbers. -/

namespace Sys2Proof

/-- A register's or a memory location's eight bits. -/
abbrev Byte := BitVec 8

/-- A word of program memory, a register pair, the stack pointer. -/
abbrev Word := BitVec 16

/-- A word address of program memory, at the greatest width the manual knows (spec/10 R25). -/
abbrev PcWord := BitVec 22

/-- The number of a general register (spec/10 R20). -/
abbrev Reg := BitVec 5

end Sys2Proof
end

