-- ==== Sys2Proof/Syntax.lean ====
section
/-! DEFINITION. The instructions of the manual, one constructor per row of spec/opcode_table.json (136 rows: 91 primary
encodings and 45 aliases), and the 114 mnemonics. Operands stand as the syntax line of the page gives them: a register by its
number, a constant or offset as the bits the instruction word carries (spec/30 R94, R95). -/

namespace Sys2Proof

/-- The mnemonics of the manual (spec/30 R97), the argument of the parameter `IMPL` of spec/00 R5. -/
inductive Mnemonic where
  | ADD | ADC | ADIW | SUB | SUBI | SBC | SBCI | SBIW | AND | ANDI | OR | ORI
  | EOR | COM | NEG | SBR | CBR | INC | DEC | TST | CLR | SER | MUL | MULS
  | MULSU | FMUL | FMULS | FMULSU | RJMP | IJMP | EIJMP | JMP | RCALL | ICALL | EICALL | CALL
  | RET | RETI | CPSE | CP | CPC | CPI | SBRC | SBRS | SBIC | SBIS | BRBS | BRBC
  | BREQ | BRNE | BRCS | BRCC | BRSH | BRLO | BRMI | BRPL | BRGE | BRLT | BRHS | BRHC
  | BRTS | BRTC | BRVS | BRVC | BRIE | BRID | MOV | MOVW | LDI | LDS | LD | LDD
  | STS | ST | STD | LPM | ELPM | IN | OUT | PUSH | POP | SPM | ESPM | LSL
  | LSR | ROL | ROR | ASR | SWAP | SBI | CBI | BST | BLD | BSET | BCLR | SEC
  | CLC | SEN | CLN | SEZ | CLZ | SEI | CLI | SES | CLS | SEV | CLV | SET
  | CLT | SEH | CLH | NOP | SLEEP | WDR
  deriving DecidableEq, Repr

/-- The instruction set. `Rd` and `Rr` are register numbers `d` and `r`. The names `land`, `lor`, `ioIn`, `ioOut` and `setT`
stand for AND, OR, IN, OUT and SET; a suffix `Inc` is the form `P+`, `Dec` the form `-P`, `R0` the form without operands. -/
inductive Instr where
  /-- `ADD Rd,Rr`: R121. -/
  | add (d : Reg) (r : Reg)
  /-- `ADC Rd,Rr`: R122. -/
  | adc (d : Reg) (r : Reg)
  /-- `ADIW Rd,K`: R123. -/
  | adiw (d : Reg) (K : BitVec 6)
  /-- `SUB Rd,Rr`: R124. -/
  | sub (d : Reg) (r : Reg)
  /-- `SUBI Rd,K`: R125. -/
  | subi (d : Reg) (K : Byte)
  /-- `SBC Rd,Rr`: R126. -/
  | sbc (d : Reg) (r : Reg)
  /-- `SBCI Rd,K`: R127. -/
  | sbci (d : Reg) (K : Byte)
  /-- `SBIW Rd,K`: R128. -/
  | sbiw (d : Reg) (K : BitVec 6)
  /-- `AND Rd,Rr`: R129. -/
  | land (d : Reg) (r : Reg)
  /-- `ANDI Rd,K`: R130. -/
  | andi (d : Reg) (K : Byte)
  /-- `OR Rd,Rr`: R131. -/
  | lor (d : Reg) (r : Reg)
  /-- `ORI Rd,K`: R132. -/
  | ori (d : Reg) (K : Byte)
  /-- `EOR Rd,Rr`: R133. -/
  | eor (d : Reg) (r : Reg)
  /-- `COM Rd`: R134. -/
  | com (d : Reg)
  /-- `NEG Rd`: R135. -/
  | neg (d : Reg)
  /-- `SBR Rd,K`: R136, another name of ORI's words (R96). -/
  | sbr (d : Reg) (K : Byte)
  /-- `CBR Rd,K`: R137, another name of ANDI's words (R96). -/
  | cbr (d : Reg) (K : Byte)
  /-- `INC Rd`: R138. -/
  | inc (d : Reg)
  /-- `DEC Rd`: R139. -/
  | dec (d : Reg)
  /-- `TST Rd`: R140, another name of AND's words (R96). -/
  | tst (d : Reg)
  /-- `CLR Rd`: R141, another name of EOR's words (R96). -/
  | clr (d : Reg)
  /-- `SER Rd`: R142, another name of LDI's words (R96). -/
  | ser (d : Reg)
  /-- `MUL Rd,Rr`: R143. -/
  | mul (d : Reg) (r : Reg)
  /-- `MULS Rd,Rr`: R144. -/
  | muls (d : Reg) (r : Reg)
  /-- `MULSU Rd,Rr`: R145. -/
  | mulsu (d : Reg) (r : Reg)
  /-- `FMUL Rd,Rr`: R146. -/
  | fmul (d : Reg) (r : Reg)
  /-- `FMULS Rd,Rr`: R147. -/
  | fmuls (d : Reg) (r : Reg)
  /-- `FMULSU Rd,Rr`: R148. -/
  | fmulsu (d : Reg) (r : Reg)
  /-- `RJMP k`: R161. -/
  | rjmp (k : BitVec 12)
  /-- `IJMP`: R162. -/
  | ijmp
  /-- `EIJMP`: R163. -/
  | eijmp
  /-- `JMP k`: R164. -/
  | jmp (k : BitVec 22)
  /-- `RCALL k`: R165. -/
  | rcall (k : BitVec 12)
  /-- `ICALL`: R166. -/
  | icall
  /-- `EICALL`: R167. -/
  | eicall
  /-- `CALL k`: R168. -/
  | call (k : BitVec 22)
  /-- `RET`: R169. -/
  | ret
  /-- `RETI`: R170. -/
  | reti
  /-- `CPSE Rd,Rr`: R171. -/
  | cpse (d : Reg) (r : Reg)
  /-- `CP Rd,Rr`: R172. -/
  | cp (d : Reg) (r : Reg)
  /-- `CPC Rd,Rr`: R173. -/
  | cpc (d : Reg) (r : Reg)
  /-- `CPI Rd,K`: R174. -/
  | cpi (d : Reg) (K : Byte)
  /-- `SBRC Rr,b`: R175. -/
  | sbrc (r : Reg) (b : BitVec 3)
  /-- `SBRS Rr,b`: R176. -/
  | sbrs (r : Reg) (b : BitVec 3)
  /-- `SBIC A,b`: R177. -/
  | sbic (A : BitVec 5) (b : BitVec 3)
  /-- `SBIS A,b`: R178. -/
  | sbis (A : BitVec 5) (b : BitVec 3)
  /-- `BRBS s,k`: R179. -/
  | brbs (s : BitVec 3) (k : BitVec 7)
  /-- `BRBC s,k`: R180. -/
  | brbc (s : BitVec 3) (k : BitVec 7)
  /-- `BREQ k`: R181, another name of BRBS's words (R96). -/
  | breq (k : BitVec 7)
  /-- `BRNE k`: R182, another name of BRBC's words (R96). -/
  | brne (k : BitVec 7)
  /-- `BRCS k`: R183, another name of BRBS's words (R96). -/
  | brcs (k : BitVec 7)
  /-- `BRCC k`: R184, another name of BRBC's words (R96). -/
  | brcc (k : BitVec 7)
  /-- `BRSH k`: R185, another name of BRBC's words (R96). -/
  | brsh (k : BitVec 7)
  /-- `BRLO k`: R186, another name of BRBS's words (R96). -/
  | brlo (k : BitVec 7)
  /-- `BRMI k`: R187, another name of BRBS's words (R96). -/
  | brmi (k : BitVec 7)
  /-- `BRPL k`: R188, another name of BRBC's words (R96). -/
  | brpl (k : BitVec 7)
  /-- `BRGE k`: R189, another name of BRBC's words (R96). -/
  | brge (k : BitVec 7)
  /-- `BRLT k`: R190, another name of BRBS's words (R96). -/
  | brlt (k : BitVec 7)
  /-- `BRHS k`: R191, another name of BRBS's words (R96). -/
  | brhs (k : BitVec 7)
  /-- `BRHC k`: R192, another name of BRBC's words (R96). -/
  | brhc (k : BitVec 7)
  /-- `BRTS k`: R193, another name of BRBS's words (R96). -/
  | brts (k : BitVec 7)
  /-- `BRTC k`: R194, another name of BRBC's words (R96). -/
  | brtc (k : BitVec 7)
  /-- `BRVS k`: R195, another name of BRBS's words (R96). -/
  | brvs (k : BitVec 7)
  /-- `BRVC k`: R196, another name of BRBC's words (R96). -/
  | brvc (k : BitVec 7)
  /-- `BRIE k`: R197, another name of BRBS's words (R96). -/
  | brie (k : BitVec 7)
  /-- `BRID k`: R198, another name of BRBC's words (R96). -/
  | brid (k : BitVec 7)
  /-- `MOV Rd,Rr`: R221. -/
  | mov (d : Reg) (r : Reg)
  /-- `MOVW Rd,Rr`: R222. -/
  | movw (d : Reg) (r : Reg)
  /-- `LDI Rd,K`: R223. -/
  | ldi (d : Reg) (K : Byte)
  /-- `LDS Rd,k`: R224. -/
  | lds (d : Reg) (k : BitVec 16)
  /-- `LD Rd,X`: R225. -/
  | ldX (d : Reg)
  /-- `LD Rd,X+`: R226. -/
  | ldXInc (d : Reg)
  /-- `LD Rd,-X`: R227. -/
  | ldXDec (d : Reg)
  /-- `LD Rd,Y`: R230, another name of LDD's words (R96). -/
  | ldY (d : Reg)
  /-- `LD Rd,Y+`: R231. -/
  | ldYInc (d : Reg)
  /-- `LD Rd,-Y`: R232. -/
  | ldYDec (d : Reg)
  /-- `LDD Rd,Y+q`: R233. -/
  | lddY (d : Reg) (q : BitVec 6)
  /-- `LD Rd,Z`: R234, another name of LDD's words (R96). -/
  | ldZ (d : Reg)
  /-- `LD Rd,Z+`: R235. -/
  | ldZInc (d : Reg)
  /-- `LD Rd,-Z`: R236. -/
  | ldZDec (d : Reg)
  /-- `LDD Rd,Z+q`: R237. -/
  | lddZ (d : Reg) (q : BitVec 6)
  /-- `STS k,Rr`: R238. -/
  | sts (k : BitVec 16) (r : Reg)
  /-- `ST X,Rr`: R239. -/
  | stX (r : Reg)
  /-- `ST X+,Rr`: R240. -/
  | stXInc (r : Reg)
  /-- `ST -X,Rr`: R241. -/
  | stXDec (r : Reg)
  /-- `ST Y,Rr`: R242, another name of STD's words (R96). -/
  | stY (r : Reg)
  /-- `ST Y+,Rr`: R243. -/
  | stYInc (r : Reg)
  /-- `ST -Y,Rr`: R244. -/
  | stYDec (r : Reg)
  /-- `STD Y+q,Rr`: R245. -/
  | stdY (q : BitVec 6) (r : Reg)
  /-- `ST Z,Rr`: R246, another name of STD's words (R96). -/
  | stZ (r : Reg)
  /-- `ST Z+,Rr`: R247. -/
  | stZInc (r : Reg)
  /-- `ST -Z,Rr`: R248. -/
  | stZDec (r : Reg)
  /-- `STD Z+q,Rr`: R249. -/
  | stdZ (q : BitVec 6) (r : Reg)
  /-- `LPM`: R250. -/
  | lpmR0
  /-- `LPM Rd,Z`: R251. -/
  | lpm (d : Reg)
  /-- `LPM Rd,Z+`: R252. -/
  | lpmInc (d : Reg)
  /-- `ELPM`: R253. -/
  | elpmR0
  /-- `ELPM Rd,Z`: R254. -/
  | elpm (d : Reg)
  /-- `ELPM Rd,Z+`: R255. -/
  | elpmInc (d : Reg)
  /-- `IN Rd,A`: R256. -/
  | ioIn (d : Reg) (A : BitVec 6)
  /-- `OUT A,Rr`: R257. -/
  | ioOut (A : BitVec 6) (r : Reg)
  /-- `PUSH Rr`: R258. -/
  | push (r : Reg)
  /-- `POP Rd`: R259. -/
  | pop (d : Reg)
  /-- `SPM`: R262. -/
  | spm
  /-- `ESPM`: R263. -/
  | espm
  /-- `LSL Rd`: R281, another name of ADD's words (R96). -/
  | lsl (d : Reg)
  /-- `LSR Rd`: R282. -/
  | lsr (d : Reg)
  /-- `ROL Rd`: R283, another name of ADC's words (R96). -/
  | rol (d : Reg)
  /-- `ROR Rd`: R284. -/
  | ror (d : Reg)
  /-- `ASR Rd`: R285. -/
  | asr (d : Reg)
  /-- `SWAP Rd`: R286. -/
  | swap (d : Reg)
  /-- `SBI A,b`: R287. -/
  | sbi (A : BitVec 5) (b : BitVec 3)
  /-- `CBI A,b`: R288. -/
  | cbi (A : BitVec 5) (b : BitVec 3)
  /-- `BST Rd,b`: R289. -/
  | bst (d : Reg) (b : BitVec 3)
  /-- `BLD Rd,b`: R290. -/
  | bld (d : Reg) (b : BitVec 3)
  /-- `BSET s`: R293. -/
  | bset (s : BitVec 3)
  /-- `BCLR s`: R294. -/
  | bclr (s : BitVec 3)
  /-- `SEC`: R295, another name of BSET's words (R96). -/
  | sec
  /-- `CLC`: R296, another name of BCLR's words (R96). -/
  | clc
  /-- `SEN`: R297, another name of BSET's words (R96). -/
  | sen
  /-- `CLN`: R298, another name of BCLR's words (R96). -/
  | cln
  /-- `SEZ`: R299, another name of BSET's words (R96). -/
  | sez
  /-- `CLZ`: R300, another name of BCLR's words (R96). -/
  | clz
  /-- `SEI`: R301, another name of BSET's words (R96). -/
  | sei
  /-- `CLI`: R302, another name of BCLR's words (R96). -/
  | cli
  /-- `SES`: R303, another name of BSET's words (R96). -/
  | ses
  /-- `CLS`: R304, another name of BCLR's words (R96). -/
  | cls
  /-- `SEV`: R305, another name of BSET's words (R96). -/
  | sev
  /-- `CLV`: R306, another name of BCLR's words (R96). -/
  | clv
  /-- `SET`: R307, another name of BSET's words (R96). -/
  | setT
  /-- `CLT`: R308, another name of BCLR's words (R96). -/
  | clt
  /-- `SEH`: R309, another name of BSET's words (R96). -/
  | seh
  /-- `CLH`: R310, another name of BCLR's words (R96). -/
  | clh
  /-- `NOP`: R311. -/
  | nop
  /-- `SLEEP`: R312. -/
  | sleep
  /-- `WDR`: R313. -/
  | wdr
  deriving DecidableEq, Repr

end Sys2Proof
end

