-- ==== Sys2Proof/WellFormed.lean ====
section
/-! DEFINITION. Which instructions of the syntax have an encoding: the operand ranges of spec/10 R22 and spec/30 R103. The
operand combinations that the manual calls undefined (spec/42 R229) are well-formed: their words decode. -/

namespace Sys2Proof

/-- 16 ≤ d ≤ 31 (R22). -/
def Reg.isUpper (d : Reg) : Bool := decide (16 ≤ d.toNat)

/-- 16 ≤ d ≤ 23 (R22). -/
def Reg.isMultiplier (d : Reg) : Bool := decide (16 ≤ d.toNat ∧ d.toNat ≤ 23)

/-- d ∈ {0, 2, ..., 30} (R22): the low register of a pair. -/
def Reg.isEven (d : Reg) : Bool := decide (d.toNat % 2 = 0)

/-- d ∈ {24, 26, 28, 30} (R22). -/
def Reg.isWordPair (d : Reg) : Bool := decide (24 ≤ d.toNat) && Reg.isEven d

/-- The instruction's operands lie in the ranges of its page (R22, R103). -/
def Instr.wellFormed : Instr → Bool
  | .add _ _ => true
  | .adc _ _ => true
  | .adiw d _ => Reg.isWordPair d
  | .sub _ _ => true
  | .subi d _ => Reg.isUpper d
  | .sbc _ _ => true
  | .sbci d _ => Reg.isUpper d
  | .sbiw d _ => Reg.isWordPair d
  | .land _ _ => true
  | .andi d _ => Reg.isUpper d
  | .lor _ _ => true
  | .ori d _ => Reg.isUpper d
  | .eor _ _ => true
  | .com _ => true
  | .neg _ => true
  | .sbr d _ => Reg.isUpper d
  | .cbr d _ => Reg.isUpper d
  | .inc _ => true
  | .dec _ => true
  | .tst _ => true
  | .clr _ => true
  | .ser d => Reg.isUpper d
  | .mul _ _ => true
  | .muls d r => Reg.isUpper d && Reg.isUpper r
  | .mulsu d r => Reg.isMultiplier d && Reg.isMultiplier r
  | .fmul d r => Reg.isMultiplier d && Reg.isMultiplier r
  | .fmuls d r => Reg.isMultiplier d && Reg.isMultiplier r
  | .fmulsu d r => Reg.isMultiplier d && Reg.isMultiplier r
  | .rjmp _ => true
  | .ijmp => true
  | .eijmp => true
  | .jmp _ => true
  | .rcall _ => true
  | .icall => true
  | .eicall => true
  | .call _ => true
  | .ret => true
  | .reti => true
  | .cpse _ _ => true
  | .cp _ _ => true
  | .cpc _ _ => true
  | .cpi d _ => Reg.isUpper d
  | .sbrc _ _ => true
  | .sbrs _ _ => true
  | .sbic _ _ => true
  | .sbis _ _ => true
  | .brbs _ _ => true
  | .brbc _ _ => true
  | .breq _ => true
  | .brne _ => true
  | .brcs _ => true
  | .brcc _ => true
  | .brsh _ => true
  | .brlo _ => true
  | .brmi _ => true
  | .brpl _ => true
  | .brge _ => true
  | .brlt _ => true
  | .brhs _ => true
  | .brhc _ => true
  | .brts _ => true
  | .brtc _ => true
  | .brvs _ => true
  | .brvc _ => true
  | .brie _ => true
  | .brid _ => true
  | .mov _ _ => true
  | .movw d r => Reg.isEven d && Reg.isEven r
  | .ldi d _ => Reg.isUpper d
  | .lds _ _ => true
  | .ldX _ => true
  | .ldXInc _ => true
  | .ldXDec _ => true
  | .ldY _ => true
  | .ldYInc _ => true
  | .ldYDec _ => true
  | .lddY _ _ => true
  | .ldZ _ => true
  | .ldZInc _ => true
  | .ldZDec _ => true
  | .lddZ _ _ => true
  | .sts _ _ => true
  | .stX _ => true
  | .stXInc _ => true
  | .stXDec _ => true
  | .stY _ => true
  | .stYInc _ => true
  | .stYDec _ => true
  | .stdY _ _ => true
  | .stZ _ => true
  | .stZInc _ => true
  | .stZDec _ => true
  | .stdZ _ _ => true
  | .lpmR0 => true
  | .lpm _ => true
  | .lpmInc _ => true
  | .elpmR0 => true
  | .elpm _ => true
  | .elpmInc _ => true
  | .ioIn _ _ => true
  | .ioOut _ _ => true
  | .push _ => true
  | .pop _ => true
  | .spm => true
  | .espm => true
  | .lsl _ => true
  | .lsr _ => true
  | .rol _ => true
  | .ror _ => true
  | .asr _ => true
  | .swap _ => true
  | .sbi _ _ => true
  | .cbi _ _ => true
  | .bst _ _ => true
  | .bld _ _ => true
  | .bset _ => true
  | .bclr _ => true
  | .sec => true
  | .clc => true
  | .sen => true
  | .cln => true
  | .sez => true
  | .clz => true
  | .sei => true
  | .cli => true
  | .ses => true
  | .cls => true
  | .sev => true
  | .clv => true
  | .setT => true
  | .clt => true
  | .seh => true
  | .clh => true
  | .nop => true
  | .sleep => true
  | .wdr => true

end Sys2Proof
end

