-- ==== Sys2Proof/Decode.lean ====
section
/-! DEFINITION. Decoding and encoding of the instruction words (spec/30). A word decodes to the primary row it matches; a word
that matches none is rejected by name (R97, R101). The encoder writes the words of every row, aliases included. -/

namespace Sys2Proof

/-! ## Operand fields (R92 to R95): the letters of a row, left to right, from most to least significant bit. -/

/-- `ddddd` (or `rrrrr` of the one-register rows) in bits 8:4. -/
def fieldD (w : Word) : Reg := w.extractLsb' 4 5

/-- `rrrrr` in bit 9 and bits 3:0. -/
def fieldR (w : Word) : Reg := w.extractLsb' 9 1 ++ w.extractLsb' 0 4

/-- `dddd` in bits 7:4, register 16 + field. -/
def fieldUpperD (w : Word) : Reg := 0b1#1 ++ w.extractLsb' 4 4

/-- `rrrr` in bits 3:0, register 16 + field. -/
def fieldUpperR (w : Word) : Reg := 0b1#1 ++ w.extractLsb' 0 4

/-- `ddd` in bits 6:4, register 16 + field. -/
def fieldMulD (w : Word) : Reg := 0b10#2 ++ w.extractLsb' 4 3

/-- `rrr` in bits 2:0, register 16 + field. -/
def fieldMulR (w : Word) : Reg := 0b10#2 ++ w.extractLsb' 0 3

/-- `dddd` in bits 7:4, register 2 × field. -/
def fieldPairD (w : Word) : Reg := w.extractLsb' 4 4 ++ 0#1

/-- `rrrr` in bits 3:0, register 2 × field. -/
def fieldPairR (w : Word) : Reg := w.extractLsb' 0 4 ++ 0#1

/-- `dd` in bits 5:4, register 24 + 2 × field. -/
def fieldWordD (w : Word) : Reg := 0b11#2 ++ w.extractLsb' 4 2 ++ 0#1

/-- `K`, eight bits: 11:8 and 3:0. -/
def fieldK8 (w : Word) : Byte := w.extractLsb' 8 4 ++ w.extractLsb' 0 4

/-- `K`, six bits: 7:6 and 3:0. -/
def fieldK6 (w : Word) : BitVec 6 := w.extractLsb' 6 2 ++ w.extractLsb' 0 4

/-- `k` of RJMP and RCALL, bits 11:0. -/
def fieldK12 (w : Word) : BitVec 12 := w.extractLsb' 0 12

/-- `k` of the branches, bits 9:3. -/
def fieldK7 (w : Word) : BitVec 7 := w.extractLsb' 3 7

/-- `k` of JMP and CALL: bits 8:4 and bit 0 of the first word, then the second word. -/
def fieldK22 (w w2 : Word) : BitVec 22 := w.extractLsb' 4 5 ++ w.extractLsb' 0 1 ++ w2

/-- `q`: bit 13, bits 11:10, bits 2:0. -/
def fieldQ (w : Word) : BitVec 6 := w.extractLsb' 13 1 ++ w.extractLsb' 10 2 ++ w.extractLsb' 0 3

/-- `A` of IN and OUT: bits 10:9 and 3:0. -/
def fieldA6 (w : Word) : BitVec 6 := w.extractLsb' 9 2 ++ w.extractLsb' 0 4

/-- `A` of SBI, CBI, SBIC, SBIS: bits 7:3. -/
def fieldA5 (w : Word) : BitVec 5 := w.extractLsb' 3 5

/-- `b` (and `s` of BRBS and BRBC): bits 2:0. -/
def fieldB (w : Word) : BitVec 3 := w.extractLsb' 0 3

/-- `s` of BSET and BCLR: bits 6:4. -/
def fieldS (w : Word) : BitVec 3 := w.extractLsb' 4 3

/-! ## The opcode table (R97) -/

/-- A primary row: a first word `w` matches it when `w &&& mask = pattern`, and `build` reads its operands from the first and
the second word. -/
structure OpcodeRow where
  mask : Word
  pattern : Word
  build : Word → Word → Instr

/-- The first word matches the row (R97). -/
def OpcodeRow.accepts (row : OpcodeRow) (w : Word) : Bool := w &&& row.mask == row.pattern

/-- The primary arithmetic and logic rows (spec/40). -/
def arithmeticRows : List OpcodeRow :=
  [ ⟨0xFC00#16, 0x0C00#16, fun w _ => .add (fieldD w) (fieldR w)⟩,
    ⟨0xFC00#16, 0x1C00#16, fun w _ => .adc (fieldD w) (fieldR w)⟩,
    ⟨0xFF00#16, 0x9600#16, fun w _ => .adiw (fieldWordD w) (fieldK6 w)⟩,
    ⟨0xFC00#16, 0x1800#16, fun w _ => .sub (fieldD w) (fieldR w)⟩,
    ⟨0xF000#16, 0x5000#16, fun w _ => .subi (fieldUpperD w) (fieldK8 w)⟩,
    ⟨0xFC00#16, 0x0800#16, fun w _ => .sbc (fieldD w) (fieldR w)⟩,
    ⟨0xF000#16, 0x4000#16, fun w _ => .sbci (fieldUpperD w) (fieldK8 w)⟩,
    ⟨0xFF00#16, 0x9700#16, fun w _ => .sbiw (fieldWordD w) (fieldK6 w)⟩,
    ⟨0xFC00#16, 0x2000#16, fun w _ => .land (fieldD w) (fieldR w)⟩,
    ⟨0xF000#16, 0x7000#16, fun w _ => .andi (fieldUpperD w) (fieldK8 w)⟩,
    ⟨0xFC00#16, 0x2800#16, fun w _ => .lor (fieldD w) (fieldR w)⟩,
    ⟨0xF000#16, 0x6000#16, fun w _ => .ori (fieldUpperD w) (fieldK8 w)⟩,
    ⟨0xFC00#16, 0x2400#16, fun w _ => .eor (fieldD w) (fieldR w)⟩,
    ⟨0xFE0F#16, 0x9400#16, fun w _ => .com (fieldD w)⟩,
    ⟨0xFE0F#16, 0x9401#16, fun w _ => .neg (fieldD w)⟩,
    ⟨0xFE0F#16, 0x9403#16, fun w _ => .inc (fieldD w)⟩,
    ⟨0xFE0F#16, 0x940A#16, fun w _ => .dec (fieldD w)⟩,
    ⟨0xFC00#16, 0x9C00#16, fun w _ => .mul (fieldD w) (fieldR w)⟩,
    ⟨0xFF00#16, 0x0200#16, fun w _ => .muls (fieldUpperD w) (fieldUpperR w)⟩,
    ⟨0xFF88#16, 0x0300#16, fun w _ => .mulsu (fieldMulD w) (fieldMulR w)⟩,
    ⟨0xFF88#16, 0x0308#16, fun w _ => .fmul (fieldMulD w) (fieldMulR w)⟩,
    ⟨0xFF88#16, 0x0380#16, fun w _ => .fmuls (fieldMulD w) (fieldMulR w)⟩,
    ⟨0xFF88#16, 0x0388#16, fun w _ => .fmulsu (fieldMulD w) (fieldMulR w)⟩]

/-- The primary branch, call, return, compare and skip rows (spec/41). -/
def branchRows : List OpcodeRow :=
  [ ⟨0xF000#16, 0xC000#16, fun w _ => .rjmp (fieldK12 w)⟩,
    ⟨0xFFFF#16, 0x9409#16, fun _ _ => .ijmp⟩,
    ⟨0xFFFF#16, 0x9419#16, fun _ _ => .eijmp⟩,
    ⟨0xFE0E#16, 0x940C#16, fun w w2 => .jmp (fieldK22 w w2)⟩,
    ⟨0xF000#16, 0xD000#16, fun w _ => .rcall (fieldK12 w)⟩,
    ⟨0xFFFF#16, 0x9509#16, fun _ _ => .icall⟩,
    ⟨0xFFFF#16, 0x9519#16, fun _ _ => .eicall⟩,
    ⟨0xFE0E#16, 0x940E#16, fun w w2 => .call (fieldK22 w w2)⟩,
    ⟨0xFFFF#16, 0x9508#16, fun _ _ => .ret⟩,
    ⟨0xFFFF#16, 0x9518#16, fun _ _ => .reti⟩,
    ⟨0xFC00#16, 0x1000#16, fun w _ => .cpse (fieldD w) (fieldR w)⟩,
    ⟨0xFC00#16, 0x1400#16, fun w _ => .cp (fieldD w) (fieldR w)⟩,
    ⟨0xFC00#16, 0x0400#16, fun w _ => .cpc (fieldD w) (fieldR w)⟩,
    ⟨0xF000#16, 0x3000#16, fun w _ => .cpi (fieldUpperD w) (fieldK8 w)⟩,
    ⟨0xFE08#16, 0xFC00#16, fun w _ => .sbrc (fieldD w) (fieldB w)⟩,
    ⟨0xFE08#16, 0xFE00#16, fun w _ => .sbrs (fieldD w) (fieldB w)⟩,
    ⟨0xFF00#16, 0x9900#16, fun w _ => .sbic (fieldA5 w) (fieldB w)⟩,
    ⟨0xFF00#16, 0x9B00#16, fun w _ => .sbis (fieldA5 w) (fieldB w)⟩,
    ⟨0xFC00#16, 0xF000#16, fun w _ => .brbs (fieldB w) (fieldK7 w)⟩,
    ⟨0xFC00#16, 0xF400#16, fun w _ => .brbc (fieldB w) (fieldK7 w)⟩]

/-- The primary data transfer rows (spec/42). -/
def transferRows : List OpcodeRow :=
  [ ⟨0xFC00#16, 0x2C00#16, fun w _ => .mov (fieldD w) (fieldR w)⟩,
    ⟨0xFF00#16, 0x0100#16, fun w _ => .movw (fieldPairD w) (fieldPairR w)⟩,
    ⟨0xF000#16, 0xE000#16, fun w _ => .ldi (fieldUpperD w) (fieldK8 w)⟩,
    ⟨0xFE0F#16, 0x9000#16, fun w w2 => .lds (fieldD w) w2⟩,
    ⟨0xFE0F#16, 0x900C#16, fun w _ => .ldX (fieldD w)⟩,
    ⟨0xFE0F#16, 0x900D#16, fun w _ => .ldXInc (fieldD w)⟩,
    ⟨0xFE0F#16, 0x900E#16, fun w _ => .ldXDec (fieldD w)⟩,
    ⟨0xFE0F#16, 0x9009#16, fun w _ => .ldYInc (fieldD w)⟩,
    ⟨0xFE0F#16, 0x900A#16, fun w _ => .ldYDec (fieldD w)⟩,
    ⟨0xD208#16, 0x8008#16, fun w _ => .lddY (fieldD w) (fieldQ w)⟩,
    ⟨0xFE0F#16, 0x9001#16, fun w _ => .ldZInc (fieldD w)⟩,
    ⟨0xFE0F#16, 0x9002#16, fun w _ => .ldZDec (fieldD w)⟩,
    ⟨0xD208#16, 0x8000#16, fun w _ => .lddZ (fieldD w) (fieldQ w)⟩,
    ⟨0xFE0F#16, 0x9200#16, fun w w2 => .sts w2 (fieldD w)⟩,
    ⟨0xFE0F#16, 0x920C#16, fun w _ => .stX (fieldD w)⟩,
    ⟨0xFE0F#16, 0x920D#16, fun w _ => .stXInc (fieldD w)⟩,
    ⟨0xFE0F#16, 0x920E#16, fun w _ => .stXDec (fieldD w)⟩,
    ⟨0xFE0F#16, 0x9209#16, fun w _ => .stYInc (fieldD w)⟩,
    ⟨0xFE0F#16, 0x920A#16, fun w _ => .stYDec (fieldD w)⟩,
    ⟨0xD208#16, 0x8208#16, fun w _ => .stdY (fieldQ w) (fieldD w)⟩,
    ⟨0xFE0F#16, 0x9201#16, fun w _ => .stZInc (fieldD w)⟩,
    ⟨0xFE0F#16, 0x9202#16, fun w _ => .stZDec (fieldD w)⟩,
    ⟨0xD208#16, 0x8200#16, fun w _ => .stdZ (fieldQ w) (fieldD w)⟩,
    ⟨0xFFFF#16, 0x95C8#16, fun _ _ => .lpmR0⟩,
    ⟨0xFE0F#16, 0x9004#16, fun w _ => .lpm (fieldD w)⟩,
    ⟨0xFE0F#16, 0x9005#16, fun w _ => .lpmInc (fieldD w)⟩,
    ⟨0xFFFF#16, 0x95D8#16, fun _ _ => .elpmR0⟩,
    ⟨0xFE0F#16, 0x9006#16, fun w _ => .elpm (fieldD w)⟩,
    ⟨0xFE0F#16, 0x9007#16, fun w _ => .elpmInc (fieldD w)⟩,
    ⟨0xF800#16, 0xB000#16, fun w _ => .ioIn (fieldD w) (fieldA6 w)⟩,
    ⟨0xF800#16, 0xB800#16, fun w _ => .ioOut (fieldA6 w) (fieldD w)⟩,
    ⟨0xFE0F#16, 0x920F#16, fun w _ => .push (fieldD w)⟩,
    ⟨0xFE0F#16, 0x900F#16, fun w _ => .pop (fieldD w)⟩,
    ⟨0xFFFF#16, 0x95E8#16, fun _ _ => .spm⟩,
    ⟨0xFFFF#16, 0x95F8#16, fun _ _ => .espm⟩]

/-- The primary bit, bit-test and MCU control rows (spec/43). -/
def bitMcuRows : List OpcodeRow :=
  [ ⟨0xFE0F#16, 0x9406#16, fun w _ => .lsr (fieldD w)⟩,
    ⟨0xFE0F#16, 0x9407#16, fun w _ => .ror (fieldD w)⟩,
    ⟨0xFE0F#16, 0x9405#16, fun w _ => .asr (fieldD w)⟩,
    ⟨0xFE0F#16, 0x9402#16, fun w _ => .swap (fieldD w)⟩,
    ⟨0xFF00#16, 0x9A00#16, fun w _ => .sbi (fieldA5 w) (fieldB w)⟩,
    ⟨0xFF00#16, 0x9800#16, fun w _ => .cbi (fieldA5 w) (fieldB w)⟩,
    ⟨0xFE08#16, 0xFA00#16, fun w _ => .bst (fieldD w) (fieldB w)⟩,
    ⟨0xFE08#16, 0xF800#16, fun w _ => .bld (fieldD w) (fieldB w)⟩,
    ⟨0xFF8F#16, 0x9408#16, fun w _ => .bset (fieldS w)⟩,
    ⟨0xFF8F#16, 0x9488#16, fun w _ => .bclr (fieldS w)⟩,
    ⟨0xFFFF#16, 0x0000#16, fun _ _ => .nop⟩,
    ⟨0xFFFF#16, 0x9588#16, fun _ _ => .sleep⟩,
    ⟨0xFFFF#16, 0x95A8#16, fun _ _ => .wdr⟩]

/-- The 91 primary rows (R97). -/
def opcodeRows : List OpcodeRow := arithmeticRows ++ branchRows ++ transferRows ++ bitMcuRows

/-- The row a first word matches, if any (R97). -/
def decodeRow (w : Word) : Option OpcodeRow := opcodeRows.find? fun row => row.accepts w

/-- `IsTwoWord(w)`: LDS, STS, JMP and CALL, by the four masks of R91. -/
def isTwoWord (w : Word) : Bool :=
  w &&& 0xFE0F#16 == 0x9000#16 || w &&& 0xFE0F#16 == 0x9200#16 ||
  w &&& 0xFE0E#16 == 0x940C#16 || w &&& 0xFE0E#16 == 0x940E#16

/-- The instruction whose first word is `w` and whose second word, where it has one, is `w2` (R100). -/
def decodeWords (w w2 : Word) : Option Instr :=
  match decodeRow w with
  | some row => some (row.build w w2)
  | none => none

/-- What decoding bytes answers. -/
inductive Decoded where
  /-- An instruction and the bytes after it. -/
  | instr (i : Instr) (rest : List Byte)
  /-- The first word matches no row (R101). -/
  | reserved (w : Word)
  /-- The bytes end inside the instruction. -/
  | truncated
  deriving DecidableEq, Repr

/-- Decoding of a byte image, the low byte of each word first (R68, R69). -/
def decodeBytes : List Byte → Decoded
  | l :: h :: rest =>
    match decodeRow (h ++ l) with
    | none => .reserved (h ++ l)
    | some row =>
      if isTwoWord (h ++ l) then
        match rest with
        | l2 :: h2 :: rest2 => .instr (row.build (h ++ l) (h2 ++ l2)) rest2
        | _ => .truncated
      else .instr (row.build (h ++ l) 0#16) rest
  | _ => .truncated

/-- A word as the two bytes of a program image, low byte first (R68, R69). -/
def wordBytes (w : Word) : List Byte := [w.extractLsb' 0 8, w.extractLsb' 8 8]

/-- The first and second word of an instruction whose bits are `w`, numbered from bit 0 of the first word; bits from `nbits` up
are 0. -/
def tableWords (nbits w : Nat) : Word × Word :=
  (BitVec.ofNat 16 (w % 2 ^ nbits), BitVec.ofNat 16 (w % 2 ^ nbits / 65536))

/-- The instruction the decoder reads from bits numbered as spec/opcode_table.json numbers them. -/
def decodeTableWord (nbits w : Nat) : Option Instr :=
  match decodeBytes (wordBytes (tableWords nbits w).1 ++ wordBytes (tableWords nbits w).2) with
  | .instr i _ => some i
  | _ => none

/-! ## The encoder (R93, R97) -/

/-- Bits 3:0 of a register number. -/
def low4 (d : Reg) : BitVec 4 := d.extractLsb' 0 4

/-- Bits 2:0 of a register number. -/
def low3 (d : Reg) : BitVec 3 := d.extractLsb' 0 3

/-- Half of an even register number. -/
def high4 (d : Reg) : BitVec 4 := d.extractLsb' 1 4

/-- Format RdRr: `oooo oord dddd rrrr`. -/
def encRdRr (op : BitVec 6) (d r : Reg) : Word := op ++ r.extractLsb' 4 1 ++ d ++ r.extractLsb' 0 4

/-- Format RdK8: `oooo KKKK dddd KKKK`. -/
def encRdK (op : BitVec 4) (d : Reg) (K : Byte) : Word := op ++ K.extractLsb' 4 4 ++ low4 d ++ K.extractLsb' 0 4

/-- Formats Rd, LdSt and Direct: seven fixed bits, a register, four fixed bits. -/
def encRd (op : BitVec 7) (d : Reg) (m : BitVec 4) : Word := op ++ d ++ m

/-- Format Disp: `10q0 qqsd dddd yqqq`. -/
def encDisp (q : BitVec 6) (s : BitVec 1) (d : Reg) (y : BitVec 1) : Word :=
  0b10#2 ++ q.extractLsb' 5 1 ++ 0#1 ++ q.extractLsb' 3 2 ++ s ++ d ++ y ++ q.extractLsb' 0 3

/-- The words of an instruction, first word first (R97). CBR holds the complement of its operand (R137). -/
def encode : Instr → List Word
  | .add d r => [encRdRr 0b000011#6 d r]
  | .adc d r => [encRdRr 0b000111#6 d r]
  | .adiw d K => [0b10010110#8 ++ K.extractLsb' 4 2 ++ d.extractLsb' 1 2 ++ K.extractLsb' 0 4]
  | .sub d r => [encRdRr 0b000110#6 d r]
  | .subi d K => [encRdK 0b0101#4 d K]
  | .sbc d r => [encRdRr 0b000010#6 d r]
  | .sbci d K => [encRdK 0b0100#4 d K]
  | .sbiw d K => [0b10010111#8 ++ K.extractLsb' 4 2 ++ d.extractLsb' 1 2 ++ K.extractLsb' 0 4]
  | .land d r => [encRdRr 0b001000#6 d r]
  | .andi d K => [encRdK 0b0111#4 d K]
  | .lor d r => [encRdRr 0b001010#6 d r]
  | .ori d K => [encRdK 0b0110#4 d K]
  | .eor d r => [encRdRr 0b001001#6 d r]
  | .com d => [encRd 0b1001010#7 d 0b0000#4]
  | .neg d => [encRd 0b1001010#7 d 0b0001#4]
  | .sbr d K => [encRdK 0b0110#4 d K]
  | .cbr d K => [encRdK 0b0111#4 d (0xFF#8 - K)]
  | .inc d => [encRd 0b1001010#7 d 0b0011#4]
  | .dec d => [encRd 0b1001010#7 d 0b1010#4]
  | .tst d => [encRdRr 0b001000#6 d d]
  | .clr d => [encRdRr 0b001001#6 d d]
  | .ser d => [encRdK 0b1110#4 d 0xFF#8]
  | .mul d r => [encRdRr 0b100111#6 d r]
  | .muls d r => [0b00000010#8 ++ low4 d ++ low4 r]
  | .mulsu d r => [0b00000011#8 ++ 0b0#1 ++ low3 d ++ 0b0#1 ++ low3 r]
  | .fmul d r => [0b00000011#8 ++ 0b0#1 ++ low3 d ++ 0b1#1 ++ low3 r]
  | .fmuls d r => [0b00000011#8 ++ 0b1#1 ++ low3 d ++ 0b0#1 ++ low3 r]
  | .fmulsu d r => [0b00000011#8 ++ 0b1#1 ++ low3 d ++ 0b1#1 ++ low3 r]
  | .rjmp k => [0b1100#4 ++ k]
  | .ijmp => [0x9409#16]
  | .eijmp => [0x9419#16]
  | .jmp k => [0b1001010#7 ++ k.extractLsb' 17 5 ++ 0b110#3 ++ k.extractLsb' 16 1, k.extractLsb' 0 16]
  | .rcall k => [0b1101#4 ++ k]
  | .icall => [0x9509#16]
  | .eicall => [0x9519#16]
  | .call k => [0b1001010#7 ++ k.extractLsb' 17 5 ++ 0b111#3 ++ k.extractLsb' 16 1, k.extractLsb' 0 16]
  | .ret => [0x9508#16]
  | .reti => [0x9518#16]
  | .cpse d r => [encRdRr 0b000100#6 d r]
  | .cp d r => [encRdRr 0b000101#6 d r]
  | .cpc d r => [encRdRr 0b000001#6 d r]
  | .cpi d K => [encRdK 0b0011#4 d K]
  | .sbrc r b => [0b1111110#7 ++ r ++ 0#1 ++ b]
  | .sbrs r b => [0b1111111#7 ++ r ++ 0#1 ++ b]
  | .sbic A b => [0b10011001#8 ++ A ++ b]
  | .sbis A b => [0b10011011#8 ++ A ++ b]
  | .brbs s k => [0b111100#6 ++ k ++ s]
  | .brbc s k => [0b111101#6 ++ k ++ s]
  | .breq k => [0b111100#6 ++ k ++ 0b001#3]
  | .brne k => [0b111101#6 ++ k ++ 0b001#3]
  | .brcs k => [0b111100#6 ++ k ++ 0b000#3]
  | .brcc k => [0b111101#6 ++ k ++ 0b000#3]
  | .brsh k => [0b111101#6 ++ k ++ 0b000#3]
  | .brlo k => [0b111100#6 ++ k ++ 0b000#3]
  | .brmi k => [0b111100#6 ++ k ++ 0b010#3]
  | .brpl k => [0b111101#6 ++ k ++ 0b010#3]
  | .brge k => [0b111101#6 ++ k ++ 0b100#3]
  | .brlt k => [0b111100#6 ++ k ++ 0b100#3]
  | .brhs k => [0b111100#6 ++ k ++ 0b101#3]
  | .brhc k => [0b111101#6 ++ k ++ 0b101#3]
  | .brts k => [0b111100#6 ++ k ++ 0b110#3]
  | .brtc k => [0b111101#6 ++ k ++ 0b110#3]
  | .brvs k => [0b111100#6 ++ k ++ 0b011#3]
  | .brvc k => [0b111101#6 ++ k ++ 0b011#3]
  | .brie k => [0b111100#6 ++ k ++ 0b111#3]
  | .brid k => [0b111101#6 ++ k ++ 0b111#3]
  | .mov d r => [encRdRr 0b001011#6 d r]
  | .movw d r => [0b00000001#8 ++ high4 d ++ high4 r]
  | .ldi d K => [encRdK 0b1110#4 d K]
  | .lds d k => [encRd 0b1001000#7 d 0b0000#4, k]
  | .ldX d => [encRd 0b1001000#7 d 0b1100#4]
  | .ldXInc d => [encRd 0b1001000#7 d 0b1101#4]
  | .ldXDec d => [encRd 0b1001000#7 d 0b1110#4]
  | .ldY d => [encDisp 0#6 0b0#1 d 0b1#1]
  | .ldYInc d => [encRd 0b1001000#7 d 0b1001#4]
  | .ldYDec d => [encRd 0b1001000#7 d 0b1010#4]
  | .lddY d q => [encDisp q 0b0#1 d 0b1#1]
  | .ldZ d => [encDisp 0#6 0b0#1 d 0b0#1]
  | .ldZInc d => [encRd 0b1001000#7 d 0b0001#4]
  | .ldZDec d => [encRd 0b1001000#7 d 0b0010#4]
  | .lddZ d q => [encDisp q 0b0#1 d 0b0#1]
  | .sts k r => [encRd 0b1001001#7 r 0b0000#4, k]
  | .stX r => [encRd 0b1001001#7 r 0b1100#4]
  | .stXInc r => [encRd 0b1001001#7 r 0b1101#4]
  | .stXDec r => [encRd 0b1001001#7 r 0b1110#4]
  | .stY r => [encDisp 0#6 0b1#1 r 0b1#1]
  | .stYInc r => [encRd 0b1001001#7 r 0b1001#4]
  | .stYDec r => [encRd 0b1001001#7 r 0b1010#4]
  | .stdY q r => [encDisp q 0b1#1 r 0b1#1]
  | .stZ r => [encDisp 0#6 0b1#1 r 0b0#1]
  | .stZInc r => [encRd 0b1001001#7 r 0b0001#4]
  | .stZDec r => [encRd 0b1001001#7 r 0b0010#4]
  | .stdZ q r => [encDisp q 0b1#1 r 0b0#1]
  | .lpmR0 => [0x95C8#16]
  | .lpm d => [encRd 0b1001000#7 d 0b0100#4]
  | .lpmInc d => [encRd 0b1001000#7 d 0b0101#4]
  | .elpmR0 => [0x95D8#16]
  | .elpm d => [encRd 0b1001000#7 d 0b0110#4]
  | .elpmInc d => [encRd 0b1001000#7 d 0b0111#4]
  | .ioIn d A => [0b10110#5 ++ A.extractLsb' 4 2 ++ d ++ A.extractLsb' 0 4]
  | .ioOut A r => [0b10111#5 ++ A.extractLsb' 4 2 ++ r ++ A.extractLsb' 0 4]
  | .push r => [encRd 0b1001001#7 r 0b1111#4]
  | .pop d => [encRd 0b1001000#7 d 0b1111#4]
  | .spm => [0x95E8#16]
  | .espm => [0x95F8#16]
  | .lsl d => [encRdRr 0b000011#6 d d]
  | .lsr d => [encRd 0b1001010#7 d 0b0110#4]
  | .rol d => [encRdRr 0b000111#6 d d]
  | .ror d => [encRd 0b1001010#7 d 0b0111#4]
  | .asr d => [encRd 0b1001010#7 d 0b0101#4]
  | .swap d => [encRd 0b1001010#7 d 0b0010#4]
  | .sbi A b => [0b10011010#8 ++ A ++ b]
  | .cbi A b => [0b10011000#8 ++ A ++ b]
  | .bst d b => [0b1111101#7 ++ d ++ 0#1 ++ b]
  | .bld d b => [0b1111100#7 ++ d ++ 0#1 ++ b]
  | .bset s => [0b10010100#8 ++ 0b0#1 ++ s ++ 0b1000#4]
  | .bclr s => [0b10010100#8 ++ 0b1#1 ++ s ++ 0b1000#4]
  | .sec => [0x9408#16]
  | .clc => [0x9488#16]
  | .sen => [0x9428#16]
  | .cln => [0x94A8#16]
  | .sez => [0x9418#16]
  | .clz => [0x9498#16]
  | .sei => [0x9478#16]
  | .cli => [0x94F8#16]
  | .ses => [0x9448#16]
  | .cls => [0x94C8#16]
  | .sev => [0x9438#16]
  | .clv => [0x94B8#16]
  | .setT => [0x9468#16]
  | .clt => [0x94E8#16]
  | .seh => [0x9458#16]
  | .clh => [0x94D8#16]
  | .nop => [0x0000#16]
  | .sleep => [0x9588#16]
  | .wdr => [0x95A8#16]

/-- The bytes of an instruction in a program image. -/
def encodeBytes (i : Instr) : List Byte := (encode i).flatMap wordBytes

/-- The primary instruction whose words an instruction shares: itself, but for the 45 aliases (R96). -/
def expand : Instr → Instr
  | .add d r => .add d r
  | .adc d r => .adc d r
  | .adiw d K => .adiw d K
  | .sub d r => .sub d r
  | .subi d K => .subi d K
  | .sbc d r => .sbc d r
  | .sbci d K => .sbci d K
  | .sbiw d K => .sbiw d K
  | .land d r => .land d r
  | .andi d K => .andi d K
  | .lor d r => .lor d r
  | .ori d K => .ori d K
  | .eor d r => .eor d r
  | .com d => .com d
  | .neg d => .neg d
  | .sbr d K => .ori d K
  | .cbr d K => .andi d (0xFF#8 - K)
  | .inc d => .inc d
  | .dec d => .dec d
  | .tst d => .land d d
  | .clr d => .eor d d
  | .ser d => .ldi d 0xFF#8
  | .mul d r => .mul d r
  | .muls d r => .muls d r
  | .mulsu d r => .mulsu d r
  | .fmul d r => .fmul d r
  | .fmuls d r => .fmuls d r
  | .fmulsu d r => .fmulsu d r
  | .rjmp k => .rjmp k
  | .ijmp => .ijmp
  | .eijmp => .eijmp
  | .jmp k => .jmp k
  | .rcall k => .rcall k
  | .icall => .icall
  | .eicall => .eicall
  | .call k => .call k
  | .ret => .ret
  | .reti => .reti
  | .cpse d r => .cpse d r
  | .cp d r => .cp d r
  | .cpc d r => .cpc d r
  | .cpi d K => .cpi d K
  | .sbrc r b => .sbrc r b
  | .sbrs r b => .sbrs r b
  | .sbic A b => .sbic A b
  | .sbis A b => .sbis A b
  | .brbs s k => .brbs s k
  | .brbc s k => .brbc s k
  | .breq k => .brbs 1#3 k
  | .brne k => .brbc 1#3 k
  | .brcs k => .brbs 0#3 k
  | .brcc k => .brbc 0#3 k
  | .brsh k => .brbc 0#3 k
  | .brlo k => .brbs 0#3 k
  | .brmi k => .brbs 2#3 k
  | .brpl k => .brbc 2#3 k
  | .brge k => .brbc 4#3 k
  | .brlt k => .brbs 4#3 k
  | .brhs k => .brbs 5#3 k
  | .brhc k => .brbc 5#3 k
  | .brts k => .brbs 6#3 k
  | .brtc k => .brbc 6#3 k
  | .brvs k => .brbs 3#3 k
  | .brvc k => .brbc 3#3 k
  | .brie k => .brbs 7#3 k
  | .brid k => .brbc 7#3 k
  | .mov d r => .mov d r
  | .movw d r => .movw d r
  | .ldi d K => .ldi d K
  | .lds d k => .lds d k
  | .ldX d => .ldX d
  | .ldXInc d => .ldXInc d
  | .ldXDec d => .ldXDec d
  | .ldY d => .lddY d 0#6
  | .ldYInc d => .ldYInc d
  | .ldYDec d => .ldYDec d
  | .lddY d q => .lddY d q
  | .ldZ d => .lddZ d 0#6
  | .ldZInc d => .ldZInc d
  | .ldZDec d => .ldZDec d
  | .lddZ d q => .lddZ d q
  | .sts k r => .sts k r
  | .stX r => .stX r
  | .stXInc r => .stXInc r
  | .stXDec r => .stXDec r
  | .stY r => .stdY 0#6 r
  | .stYInc r => .stYInc r
  | .stYDec r => .stYDec r
  | .stdY q r => .stdY q r
  | .stZ r => .stdZ 0#6 r
  | .stZInc r => .stZInc r
  | .stZDec r => .stZDec r
  | .stdZ q r => .stdZ q r
  | .lpmR0 => .lpmR0
  | .lpm d => .lpm d
  | .lpmInc d => .lpmInc d
  | .elpmR0 => .elpmR0
  | .elpm d => .elpm d
  | .elpmInc d => .elpmInc d
  | .ioIn d A => .ioIn d A
  | .ioOut A r => .ioOut A r
  | .push r => .push r
  | .pop d => .pop d
  | .spm => .spm
  | .espm => .espm
  | .lsl d => .add d d
  | .lsr d => .lsr d
  | .rol d => .adc d d
  | .ror d => .ror d
  | .asr d => .asr d
  | .swap d => .swap d
  | .sbi A b => .sbi A b
  | .cbi A b => .cbi A b
  | .bst d b => .bst d b
  | .bld d b => .bld d b
  | .bset s => .bset s
  | .bclr s => .bclr s
  | .sec => .bset 0#3
  | .clc => .bclr 0#3
  | .sen => .bset 2#3
  | .cln => .bclr 2#3
  | .sez => .bset 1#3
  | .clz => .bclr 1#3
  | .sei => .bset 7#3
  | .cli => .bclr 7#3
  | .ses => .bset 4#3
  | .cls => .bclr 4#3
  | .sev => .bset 3#3
  | .clv => .bclr 3#3
  | .setT => .bset 6#3
  | .clt => .bclr 6#3
  | .seh => .bset 5#3
  | .clh => .bclr 5#3
  | .nop => .nop
  | .sleep => .sleep
  | .wdr => .wdr

/-- The mnemonic of an instruction's row. -/
def mnemonicOf : Instr → Mnemonic
  | .add _ _ => .ADD
  | .adc _ _ => .ADC
  | .adiw _ _ => .ADIW
  | .sub _ _ => .SUB
  | .subi _ _ => .SUBI
  | .sbc _ _ => .SBC
  | .sbci _ _ => .SBCI
  | .sbiw _ _ => .SBIW
  | .land _ _ => .AND
  | .andi _ _ => .ANDI
  | .lor _ _ => .OR
  | .ori _ _ => .ORI
  | .eor _ _ => .EOR
  | .com _ => .COM
  | .neg _ => .NEG
  | .sbr _ _ => .SBR
  | .cbr _ _ => .CBR
  | .inc _ => .INC
  | .dec _ => .DEC
  | .tst _ => .TST
  | .clr _ => .CLR
  | .ser _ => .SER
  | .mul _ _ => .MUL
  | .muls _ _ => .MULS
  | .mulsu _ _ => .MULSU
  | .fmul _ _ => .FMUL
  | .fmuls _ _ => .FMULS
  | .fmulsu _ _ => .FMULSU
  | .rjmp _ => .RJMP
  | .ijmp => .IJMP
  | .eijmp => .EIJMP
  | .jmp _ => .JMP
  | .rcall _ => .RCALL
  | .icall => .ICALL
  | .eicall => .EICALL
  | .call _ => .CALL
  | .ret => .RET
  | .reti => .RETI
  | .cpse _ _ => .CPSE
  | .cp _ _ => .CP
  | .cpc _ _ => .CPC
  | .cpi _ _ => .CPI
  | .sbrc _ _ => .SBRC
  | .sbrs _ _ => .SBRS
  | .sbic _ _ => .SBIC
  | .sbis _ _ => .SBIS
  | .brbs _ _ => .BRBS
  | .brbc _ _ => .BRBC
  | .breq _ => .BREQ
  | .brne _ => .BRNE
  | .brcs _ => .BRCS
  | .brcc _ => .BRCC
  | .brsh _ => .BRSH
  | .brlo _ => .BRLO
  | .brmi _ => .BRMI
  | .brpl _ => .BRPL
  | .brge _ => .BRGE
  | .brlt _ => .BRLT
  | .brhs _ => .BRHS
  | .brhc _ => .BRHC
  | .brts _ => .BRTS
  | .brtc _ => .BRTC
  | .brvs _ => .BRVS
  | .brvc _ => .BRVC
  | .brie _ => .BRIE
  | .brid _ => .BRID
  | .mov _ _ => .MOV
  | .movw _ _ => .MOVW
  | .ldi _ _ => .LDI
  | .lds _ _ => .LDS
  | .ldX _ => .LD
  | .ldXInc _ => .LD
  | .ldXDec _ => .LD
  | .ldY _ => .LD
  | .ldYInc _ => .LD
  | .ldYDec _ => .LD
  | .lddY _ _ => .LDD
  | .ldZ _ => .LD
  | .ldZInc _ => .LD
  | .ldZDec _ => .LD
  | .lddZ _ _ => .LDD
  | .sts _ _ => .STS
  | .stX _ => .ST
  | .stXInc _ => .ST
  | .stXDec _ => .ST
  | .stY _ => .ST
  | .stYInc _ => .ST
  | .stYDec _ => .ST
  | .stdY _ _ => .STD
  | .stZ _ => .ST
  | .stZInc _ => .ST
  | .stZDec _ => .ST
  | .stdZ _ _ => .STD
  | .lpmR0 => .LPM
  | .lpm _ => .LPM
  | .lpmInc _ => .LPM
  | .elpmR0 => .ELPM
  | .elpm _ => .ELPM
  | .elpmInc _ => .ELPM
  | .ioIn _ _ => .IN
  | .ioOut _ _ => .OUT
  | .push _ => .PUSH
  | .pop _ => .POP
  | .spm => .SPM
  | .espm => .ESPM
  | .lsl _ => .LSL
  | .lsr _ => .LSR
  | .rol _ => .ROL
  | .ror _ => .ROR
  | .asr _ => .ASR
  | .swap _ => .SWAP
  | .sbi _ _ => .SBI
  | .cbi _ _ => .CBI
  | .bst _ _ => .BST
  | .bld _ _ => .BLD
  | .bset _ => .BSET
  | .bclr _ => .BCLR
  | .sec => .SEC
  | .clc => .CLC
  | .sen => .SEN
  | .cln => .CLN
  | .sez => .SEZ
  | .clz => .CLZ
  | .sei => .SEI
  | .cli => .CLI
  | .ses => .SES
  | .cls => .CLS
  | .sev => .SEV
  | .clv => .CLV
  | .setT => .SET
  | .clt => .CLT
  | .seh => .SEH
  | .clh => .CLH
  | .nop => .NOP
  | .sleep => .SLEEP
  | .wdr => .WDR

/-- The length of an instruction in words: two for LDS, STS, JMP and CALL, else one (R90). -/
def Instr.words : Instr → Nat
  | .lds _ _ => 2
  | .sts _ _ => 2
  | .jmp _ => 2
  | .call _ => 2
  | _ => 1

end Sys2Proof
end

