-- ==== Sys2Proof/Config.lean ====
section
/-! DEFINITION. What the manual leaves to the device (spec/00 R5): the parameters of a machine, fixed while it runs, the
reference configuration of spec/00 R6, and the device's functions, of which nothing is known. -/

namespace Sys2Proof

/-- `DATACLASS` (spec/20 R61). -/
inductive DataClass where
  /-- No more than 256 bytes of data space. -/
  | le256
  /-- No more than 64K bytes of data space. -/
  | le64K
  /-- More than 64K bytes of data space. -/
  | gt64K
  deriving DecidableEq, Repr

/-- `SPBITS` (spec/10 R32): the width of the stack pointer. -/
inductive SpWidth where
  | bits8
  | bits16
  deriving DecidableEq, Repr

/-- The five operations that share the opcodes of SPM and ESPM (spec/42 R262, R263). -/
inductive SpmOp where
  /-- (i) Erase a program memory page to $FFFF. -/
  | erasePage
  /-- (ii) Write R1:R0 to a program memory word. -/
  | writeWord
  /-- (iii) Write R1:R0 to a word of the temporary page buffer. -/
  | fillBuffer
  /-- (iv) Write the temporary page buffer to a program memory page. -/
  | writePage
  /-- (v) Set the boot loader lock bits to R1:R0. -/
  | setLockBits
  deriving DecidableEq, Repr

/-- The part of a device that makes SPM and ESPM do something (spec/42 R262): all of it is device documentation. -/
structure SpmDevice where
  /-- The size of a page of program memory, in words. -/
  pageWords : Nat
  /-- The Z register (RAMPZ:Z for ESPM) is a byte address if true, a word address if false. -/
  byteAddress : Bool
  /-- The value of SPMCR that selects each operation. -/
  commands : List (Byte × SpmOp)
  deriving DecidableEq, Repr

/-- The part of the state that an access to one of the device's own I/O locations can change (spec/20 R65, R66): the device's
inner state, as a number, its interrupt requests, its demand of a reset, and its watchdog timer. -/
structure DevicePart where
  inner : Nat
  pending : List Nat
  resetDemanded : Bool
  watchdog : Nat
  deriving DecidableEq, Repr, Inhabited

/-- The parameters of spec/00 R5. -/
structure Config where
  /-- `PCBITS`: implemented bits of the program counter. -/
  pcBits : Nat
  /-- `FLASHWORDS`: words of program memory. -/
  flashWords : Nat
  /-- `DATACLASS`. -/
  dataClass : DataClass
  /-- `HAS_SRAM`. -/
  hasSram : Bool
  /-- `PROG_GT64KB`: program memory exceeds 64K bytes. -/
  progGt64KB : Bool
  /-- The mnemonics for which `IMPL` is false. -/
  lacks : List Mnemonic
  /-- `RAMPBITS`: implemented bits of RAMPX, RAMPY, RAMPZ and RAMPD. -/
  rampBits : Nat
  /-- `SPBITS`. -/
  spWidth : SpWidth
  /-- `RF_BASE`: data address of R0. -/
  rfBase : Nat
  /-- `IO_BASE`: data address of I/O location 0. -/
  ioBase : Nat
  /-- `SRAM_BASE`: data address of the first SRAM byte. -/
  sramBase : Nat
  /-- `RAMEND`: data address of the last SRAM byte. -/
  ramEnd : Nat
  /-- `IO_SREG`. -/
  ioSreg : BitVec 6
  /-- `IO_SPL`. -/
  ioSpl : BitVec 6
  /-- `IO_SPH`. -/
  ioSph : BitVec 6
  /-- `IO_RAMPX`, where the register exists. -/
  ioRampx : Option (BitVec 6)
  /-- `IO_RAMPY`, where the register exists. -/
  ioRampy : Option (BitVec 6)
  /-- `IO_RAMPZ`, where the register exists. -/
  ioRampz : Option (BitVec 6)
  /-- `IO_RAMPD`, where the register exists. -/
  ioRampd : Option (BitVec 6)
  /-- `IO_EIND`, where the register exists. -/
  ioEind : Option (BitVec 6)
  /-- `IO_SPMCR`, where the register exists. -/
  ioSpmcr : Option (BitVec 6)
  /-- The I/O address of the MCU control register (spec/10 R37), where the register exists. -/
  ioMcucr : Option (BitVec 6)
  /-- `RESET_PC`. -/
  resetPc : PcWord
  /-- `VECTOR(1)`, `VECTOR(2)`, ...: as many as `NVECT`. -/
  vectors : List PcWord
  /-- Device: the I/O locations that are not plain storage, where `Device.IoRead` and `Device.IoWrite` act (spec/20 R65). -/
  deviceIo : List (BitVec 6)
  /-- Device: those of them whose `Device.IoSetBit` is the device's own and not the default of spec/20 R66. -/
  setBitIo : List (BitVec 6)
  /-- Device: SLEEP holds the core when the MCU control register, masked with the first byte, equals the second. -/
  sleepHold : Option (Byte × Byte)
  /-- Device: after how many steps without WDR the watchdog demands a reset. -/
  watchdogLimit : Option Nat
  /-- Device: what SPM and ESPM do, where the device defines it. -/
  spm : Option SpmDevice
  /-- Device: the first data address of external RAM and its wait states (timing only, spec/70 R372). -/
  externalRam : Option (Nat × Nat)
  deriving DecidableEq, Repr

/-- `PCBYTES` (R5): the bytes of a stacked return address. -/
def Config.pcBytes (cfg : Config) : Nat := if cfg.pcBits ≤ 16 then 2 else 3

/-- `IMPL(m)` (spec/30 R102), with the constraint that EICALL and EIJMP need a program counter of three bytes (spec/41 R163,
R167). -/
def Config.implements (cfg : Config) (m : Mnemonic) : Bool :=
  !cfg.lacks.contains m && (decide (cfg.pcBytes = 3) || !(m == .EICALL || m == .EIJMP))

/-- `NVECT` (R5): the number of interrupt sources. -/
def Config.nvect (cfg : Config) : Nat := cfg.vectors.length

/-- The reference configuration (R6). -/
def Config.reference : Config where
  pcBits := 16
  flashWords := 65536
  dataClass := .le64K
  hasSram := true
  progGt64KB := false
  lacks := [.EICALL, .EIJMP, .ELPM, .ESPM]
  rampBits := 0
  spWidth := .bits16
  rfBase := 0x0000
  ioBase := 0x0020
  sramBase := 0x0060
  ramEnd := 0x025F
  ioSreg := 0x3F#6
  ioSpl := 0x3D#6
  ioSph := 0x3E#6
  ioRampx := none
  ioRampy := none
  ioRampz := none
  ioRampd := none
  ioEind := none
  ioSpmcr := none
  ioMcucr := none
  resetPc := 0
  vectors := []
  deviceIo := []
  setBitIo := []
  sleepHold := none
  watchdogLimit := none
  spm := none
  externalRam := none

/-! ### The device's functions (R5, spec/20 R65, R66, U7, assumption log 11)

They have no body: nothing is known of them, so a claim holds for every device. The first argument, the number of the access,
stands for what reaches the device from outside between two accesses. -/

/-- `Device.IoRead(A)`: the byte read, and what the read changes in the device. -/
opaque Config.deviceRead : Nat → BitVec 6 → DevicePart → Byte × DevicePart

/-- `Device.IoWrite(A, v)`: what the write changes in the device. -/
opaque Config.deviceWrite : Nat → BitVec 6 → Byte → DevicePart → DevicePart

/-- `Device.IoSetBit(A, b, v)`, where it is the device's own: what it changes in the device. -/
opaque Config.deviceSetBit : Nat → BitVec 6 → BitVec 3 → Bool → DevicePart → DevicePart

end Sys2Proof
end

