-- ==== Sys2Proof/Machine/State.lean ====
section
/-! DEFINITION. The state of the machine, as plain data, its faults and refusals, and the state after reset (spec/10, spec/70
section 1). -/

namespace Sys2Proof.Machine

/-- Why the machine stops with a fault: the model outcomes of spec/60 R331 that spec/93 treats as faults. The state is that
before the instruction. All are SAFE: the hardware's behaviour is unknown and the model never goes on. -/
inductive Fault where
  /-- Raised by the fetch of a first or second word and by the skips' look at the next word, for a word address at or above
  FLASHWORDS (spec/20 R67). Safe. -/
  | fetchOutOfRange (w : PcWord)
  /-- Raised by LPM and ELPM, for a byte address at or above twice FLASHWORDS (spec/20 R68). Safe. -/
  | progReadOutOfRange (b : Nat)
  /-- Raised by every data access to an address outside the three parts of the data space (spec/20 R63, R64). Safe. -/
  | unmappedData (a : Nat)
  /-- Raised by the decoder for a first word that matches no row (spec/30 R101). Safe. -/
  | reservedInstruction (w : Word)
  /-- Raised by the decoder for an instruction the device lacks (spec/30 R102). Safe. -/
  | unimplementedInstruction (m : Mnemonic)
  deriving DecidableEq, Repr

/-- Why the machine refuses an instruction: the model outcomes of spec/60 R331 that spec/93 treats as refusals. -/
inductive Refusal where
  /-- Raised by no instruction: every arm of `exec` has its meaning. Safe. -/
  | notModelled (mnemonic : String)
  /-- Raised by the 28 operand combinations whose result the manual calls undefined, with the instruction word (spec/42 R229).
  Safe: the manual gives them no effect. -/
  | unpredictableWord (w : Word)
  /-- Raised by an access that hits the pointer or stack pointer it is updating, with the address (spec/20 R87). Safe: the
  manual gives no order of the two effects. -/
  | unpredictableAddress (a : Nat)
  /-- Raised by SPM and ESPM where the device defines no program memory writing, or not the one asked for (spec/42 R262, R263).
  Safe: the operation is device documentation. -/
  | deviceSpecific (m : Mnemonic)
  deriving DecidableEq, Repr

/-- A memory: (address, byte) pairs, in the canonical form of `Memory.wf` (Memory.lean). -/
abbrev Memory := List Host.Cell

/-- The machine's state: all the registers of spec/10, the memories of spec/20, the hidden state of spec/10 R40 and of spec/60,
the parameters, and the count of device accesses. -/
structure State where
  /-- The parameters (spec/00 R5); no instruction changes them. -/
  cfg : Config
  /-- PC, the word address of the next instruction (R25). -/
  pc : PcWord
  /-- R0 to R31 (R20). -/
  regs : Vector Byte 32
  /-- SREG: I T H S V N Z C in bits 7 to 0 (R27). -/
  sreg : Byte
  /-- SP (R32). -/
  sp : Word
  /-- RAMPX (R33). -/
  rampx : Byte
  /-- RAMPY (R33). -/
  rampy : Byte
  /-- RAMPZ (R33). -/
  rampz : Byte
  /-- RAMPD (R34). -/
  rampd : Byte
  /-- EIND (R35). -/
  eind : Byte
  /-- SPMCR (R36). -/
  spmcr : Byte
  /-- The MCU control register (R37). -/
  mcucr : Byte
  /-- SRAM, by data address (R60). -/
  sram : Memory
  /-- The I/O locations the core does not own, by I/O address (R65). -/
  io : Memory
  /-- Program memory, by byte address: word w is bytes 2w and 2w + 1 (R67, R68). -/
  prog : Memory
  /-- The SPM temporary page buffer, by byte offset in the page (R40). -/
  pageBuffer : Memory
  /-- BLBITS, the boot loader lock bits (R262). -/
  blbits : Word
  /-- One more instruction runs before an interrupt may be taken (R342). -/
  holdoff : Bool
  /-- SLEEP holds the core (R350). -/
  sleeping : Bool
  /-- The sources n with Device.Pending(n): requesting and individually enabled (R333). -/
  pending : List Nat
  /-- The device demands a reset (R362). -/
  resetDemanded : Bool
  /-- The watchdog timer: steps since it was restarted (R313). -/
  watchdog : Nat
  /-- The inner state of the device (R5), as a number that only the device's functions read and write. -/
  device : Nat
  /-- THE MODEL'S OWN: how many accesses to the device's own I/O locations have been made (assumption log 11). -/
  freeCount : Nat
  deriving DecidableEq, Repr

/-- A step's outcome, with a result of type `α`. -/
abbrev Result (α : Type) := Host.Outcome α Fault Refusal

/-- The state after reset, for a device's parameters and a program image (spec/10 R41, spec/70 R361). SREG is $00 and the PC is
RESET_PC; every value the spec leaves unspecified is zero here (assumption log 1 to 8). -/
def State.powerOn (cfg : Config) (image : Memory) : State where
  cfg := cfg
  pc := BitVec.ofNat 22 (cfg.resetPc.toNat % 2 ^ cfg.pcBits)
  regs := Vector.replicate 32 0
  sreg := 0
  sp := 0
  rampx := 0
  rampy := 0
  rampz := 0
  rampd := 0
  eind := 0
  spmcr := 0
  mcucr := 0
  sram := []
  io := []
  prog := image
  pageBuffer := []
  blbits := 0
  holdoff := false
  sleeping := false
  pending := []
  resetDemanded := false
  watchdog := 0
  device := 0
  freeCount := 0

/-- The machine right after reset: the reference configuration (R6), no program placed. -/
def State.reset : State := State.powerOn Config.reference []

end Sys2Proof.Machine
end

