-- ==== Sys2Proof/Machine/Flags.lean ====
section
/-! DEFINITION. SREG's flags and every flag computation of the manual (spec/10 R27, spec/00 R12 to R17). Each function takes the
old SREG and answers the new one; a flag it does not name keeps its value (R28). -/

namespace Sys2Proof.Machine

/-- A bit number of SREG (R27). -/
abbrev Flag := BitVec 3

/-- Carry. -/
abbrev Flag.C : Flag := 0
/-- Zero. -/
abbrev Flag.Z : Flag := 1
/-- Negative. -/
abbrev Flag.N : Flag := 2
/-- Two's complement overflow. -/
abbrev Flag.V : Flag := 3
/-- N ⊕ V, for signed tests; a stored bit (R27). -/
abbrev Flag.S : Flag := 4
/-- Half carry. -/
abbrev Flag.H : Flag := 5
/-- Transfer bit of BLD and BST. -/
abbrev Flag.T : Flag := 6
/-- Global interrupt enable. -/
abbrev Flag.I : Flag := 7

/-- `SREG[f]` (R9, R27). -/
def getFlag (sreg : Byte) (f : Flag) : Bool := sreg.getLsbD f.toNat

/-- SREG with the one bit `f` written. -/
def setFlag (sreg : Byte) (f : Flag) (v : Bool) : Byte :=
  if v then sreg ||| (1#8 <<< f.toNat) else sreg &&& ~~~(1#8 <<< f.toNat)

/-- A byte with bit `b` replaced (BLD, SBI, CBI; R66, R290). -/
def setBit (x : Byte) (b : BitVec 3) (v : Bool) : Byte :=
  if v then x ||| (1#8 <<< b.toNat) else x &&& ~~~(1#8 <<< b.toNat)

/-- The result of an 8-bit addition or subtraction with the flags it defines. -/
structure Arith8 where
  result : Byte
  h : Bool
  v : Bool
  c : Bool
  deriving DecidableEq, Repr

/-- The exact value lies outside the signed bytes. -/
def overflows (x : Int) : Bool := decide (x < -128 ∨ 127 < x)

/-- `Add8(a, b, c)` (R13). -/
def add8 (a b : Byte) (c : Bool) : Arith8 where
  result := BitVec.ofNat 8 (a.toNat + b.toNat + c.toNat)
  h := decide (15 < a.toNat % 16 + b.toNat % 16 + c.toNat)
  v := overflows (a.toInt + b.toInt + c.toNat)
  c := decide (255 < a.toNat + b.toNat + c.toNat)

/-- `Sub8(a, b, c)` (R14). -/
def sub8 (a b : Byte) (c : Bool) : Arith8 where
  result := BitVec.ofInt 8 ((a.toNat : Int) - b.toNat - c.toNat)
  h := decide (a.toNat % 16 < b.toNat % 16 + c.toNat)
  v := overflows (a.toInt - b.toInt - c.toNat)
  c := decide (a.toNat < b.toNat + c.toNat)

/-- `SetNZS(r, v)` (R12). -/
def setNZS (sreg : Byte) (r : Byte) (v : Bool) : Byte :=
  setFlag (setFlag (setFlag (setFlag sreg .N r.msb) .Z (r == 0)) .V v) .S (r.msb ^^ v)

/-- `SetFlagsAddSub(r, H, V, C)` (R15). -/
def setFlagsAddSub (sreg : Byte) (q : Arith8) : Byte :=
  setNZS (setFlag (setFlag sreg .H q.h) .C q.c) q.result q.v

/-- `SetFlagsSubCarry(r, H, V, C)` (R15): Z stays set only if it was set. -/
def setFlagsSubCarry (sreg : Byte) (q : Arith8) : Byte :=
  setFlag (setFlagsAddSub sreg q) .Z (q.result == 0 && getFlag sreg .Z)

/-- `SetFlagsLogic(r)` (R16). -/
def setFlagsLogic (sreg : Byte) (r : Byte) : Byte := setNZS sreg r false

/-- `SetFlagsShiftRight(r, c)` (R17). -/
def setFlagsShiftRight (sreg : Byte) (r : Byte) (c : Bool) : Byte :=
  setNZS (setFlag sreg .C c) r (r.msb ^^ c)

/-- The flags of LSL and ROL (R281, R283): `a` is the register before the shift, `r` after it. -/
def setFlagsShiftLeft (sreg : Byte) (a r : Byte) : Byte :=
  setNZS (setFlag (setFlag sreg .H (a.getLsbD 3)) .C a.msb) r (r.msb ^^ a.msb)

/-- The flags of NEG (R135): `a` is the register before, `r` after. -/
def setFlagsNeg (sreg : Byte) (a r : Byte) : Byte :=
  setNZS (setFlag (setFlag sreg .H (r.getLsbD 3 || a.getLsbD 3)) .C (r != 0)) r (r == 0x80)

/-- The flags of ADIW and SBIW (R123, R128), given V and C. -/
def setFlagsWord (sreg : Byte) (r : Word) (v c : Bool) : Byte :=
  setFlag (setFlag (setFlag (setFlag (setFlag sreg .V v) .C c) .N r.msb) .Z (r == 0)) .S (r.msb ^^ v)

/-- The flags of the six multiplies (R143 to R148): C is bit 15 of the product, Z tells whether the 16-bit result is 0. -/
def setFlagsMultiply (sreg : Byte) (product result : Word) : Byte :=
  setFlag (setFlag sreg .C product.msb) .Z (result == 0)

end Sys2Proof.Machine
end

