-- ==== Sys2Proof/Machine/Memory.lean ====
section
/-! DEFINITION. The four memories (spec/20): what an unlisted address reads as, reading and writing one byte, and the canonical
form: addresses strictly rising, no entry equal to what an unlisted address reads as. -/

namespace Sys2Proof.Machine

/-- The memories of the machine. -/
inductive Space where
  | sram
  | io
  | prog
  | pageBuffer
  deriving DecidableEq, Repr

/-- What an unlisted address reads as. DESIGN CHOICE, unsafe (assumption log 4, 5, 6): 0 in SRAM and the I/O space, $FF in
program memory and its page buffer, as after an erase (spec/42 R262 (i)). -/
def Space.unlisted : Space → Byte
  | .sram => 0
  | .io => 0
  | .prog => 0xFF
  | .pageBuffer => 0xFF

/-- The byte at an address. -/
def Memory.read (k : Space) (m : Memory) (a : Nat) : Byte := (m.lookup a).getD k.unlisted

/-- The memory without an entry for an address. -/
def Memory.erase (m : Memory) (a : Nat) : Memory := m.filter fun cell => cell.1 != a

/-- The memory with an entry put in its place among rising addresses. -/
def Memory.insert (m : Memory) (a : Nat) (v : Byte) : Memory :=
  match m with
  | [] => [(a, v)]
  | cell :: rest => if a < cell.1 then (a, v) :: cell :: rest else cell :: Memory.insert rest a v

/-- The memory after a byte is written; writing what an unlisted address reads as removes the entry. -/
def Memory.write (k : Space) (m : Memory) (a : Nat) (v : Byte) : Memory :=
  if v = k.unlisted then Memory.erase m a else Memory.insert (Memory.erase m a) a v

/-- The canonical form. -/
def Memory.wf (k : Space) (m : Memory) : Bool :=
  decide (m.Pairwise fun x y => x.1 < y.1) && m.all fun cell => cell.2 != k.unlisted

/-- The 16-bit word whose low byte is at `2 * w` (R68, R69). -/
def Memory.readWord (k : Space) (m : Memory) (w : Nat) : Word :=
  Memory.read k m (2 * w + 1) ++ Memory.read k m (2 * w)

/-- A 16-bit word written with its low byte at `2 * w` (R68, R69). -/
def Memory.writeWord (k : Space) (m : Memory) (w : Nat) (v : Word) : Memory :=
  Memory.write k (Memory.write k m (2 * w) (v.extractLsb' 0 8)) (2 * w + 1) (v.extractLsb' 8 8)

/-- `n` words written from word `base` on, the `i`-th being `f i`. -/
def Memory.writeWords (k : Space) (m : Memory) (base n : Nat) (f : Nat → Word) : Memory :=
  (List.range n).foldl (fun acc i => Memory.writeWord k acc (base + i) (f i)) m

end Sys2Proof.Machine
end

