-- ==== Sys2Proof/Machine/Ops.lean ====
section
/-! DEFINITION. The named operations over registers, memories, stack and program counter that the meanings share, and the one
exception entry of the machine, taking an interrupt, with the return from it (spec/10, spec/20, spec/60). -/

namespace Sys2Proof.Machine

/-- Go on with the result of an operation, or stop where it stopped. -/
def andThen {α β : Type} (r : Result α) (f : α → Result β) : Result β :=
  match r with
  | .next x => f x
  | .fault e => .fault e
  | .refused e => .refused e

/-! ## Registers (spec/10 sections 1 to 4) -/

/-- `x[i]` (R20). -/
def State.reg (s : State) (i : Reg) : Byte := s.regs[i.toNat]

/-- `x[i] <- v` (R20). -/
def State.setReg (s : State) (i : Reg) (v : Byte) : State := { s with regs := s.regs.set i.toNat v }

/-- `x[i+1]:x[i]` (R21). -/
def State.pair (s : State) (i : Reg) : Word := s.reg (i + 1) ++ s.reg i

/-- `x[i+1]:x[i] <- v` (R21). -/
def State.setPair (s : State) (i : Reg) (v : Word) : State :=
  (s.setReg i (v.extractLsb' 0 8)).setReg (i + 1) (v.extractLsb' 8 8)

/-- SREG written whole. -/
def State.setSreg (s : State) (v : Byte) : State := { s with sreg := v }

/-- `SREG[f]` of a state. -/
def State.flag (s : State) (f : Flag) : Bool := getFlag s.sreg f

/-- SP written. -/
def State.setSp (s : State) (v : Word) : State := { s with sp := v }

/-- The program counter written. -/
def State.setPc (s : State) (t : PcWord) : State := { s with pc := t }

/-! ## The program counter (R25, R26): every value is reduced modulo 2^PCBITS -/

/-- `n mod 2^PCBITS`. -/
def wrapPc (cfg : Config) (n : Nat) : PcWord := BitVec.ofNat 22 (n % 2 ^ cfg.pcBits)

/-- `pc + n`. -/
def State.pcPlus (s : State) (n : Nat) : PcWord := wrapPc s.cfg (s.pc.toNat + n)

/-- `pc <- pc + n`. -/
def State.advance (s : State) (n : Nat) : State := s.setPc (s.pcPlus n)

/-- `pc + k + 1` for a signed offset (R161, R179). -/
def State.relTarget (s : State) (k : Int) : PcWord :=
  BitVec.ofNat 22 (((s.pc.toNat : Int) + k + 1) % (2 ^ s.cfg.pcBits : Nat)).toNat

/-! ## Which special registers a device has (R33 to R35) -/

/-- RAMPX, RAMPY and RAMPD exist. -/
def hasRampXYD (cfg : Config) : Bool := cfg.dataClass == .gt64K

/-- RAMPZ exists. -/
def hasRampZ (cfg : Config) : Bool := cfg.dataClass == .gt64K || cfg.progGt64KB

/-- EIND exists. -/
def hasEind (cfg : Config) : Bool := cfg.implements .EIJMP || cfg.implements .EICALL

/-- A value of a RAMP register: the bits above RAMPBITS read as 0 and ignore writes (R33). -/
def rampMask (cfg : Config) (v : Byte) : Byte := BitVec.ofNat 8 (v.toNat % 2 ^ cfg.rampBits)

/-! ## The I/O space (R65, R66) -/

/-- What an I/O location is. -/
inductive IoReg where
  | sreg
  | spl
  | sph
  | rampx
  | rampy
  | rampz
  | rampd
  | eind
  | spmcr
  | mcucr
  /-- One of the device's own locations: its functions act there. -/
  | device
  /-- Plain storage. -/
  | storage
  deriving DecidableEq, Repr

/-- What lies at an I/O address: the registers the core owns first, in the order of R65, then the device's. -/
def ioOwner (cfg : Config) (A : BitVec 6) : IoReg :=
  if A = cfg.ioSreg then .sreg
  else if A = cfg.ioSpl then .spl
  else if cfg.spWidth = .bits16 ∧ A = cfg.ioSph then .sph
  else if hasRampXYD cfg ∧ cfg.ioRampx = some A then .rampx
  else if hasRampXYD cfg ∧ cfg.ioRampy = some A then .rampy
  else if hasRampZ cfg ∧ cfg.ioRampz = some A then .rampz
  else if hasRampXYD cfg ∧ cfg.ioRampd = some A then .rampd
  else if hasEind cfg ∧ cfg.ioEind = some A then .eind
  else if cfg.ioSpmcr = some A then .spmcr
  else if cfg.ioMcucr = some A then .mcucr
  else if cfg.deviceIo.contains A then .device
  else .storage

/-- The part of the state that the device's functions read and write. -/
def State.devicePart (s : State) : DevicePart :=
  { inner := s.device, pending := s.pending, resetDemanded := s.resetDemanded, watchdog := s.watchdog }

/-- That part written, and one more access counted. -/
def State.setDevicePart (s : State) (p : DevicePart) : State :=
  { s with
    device := p.inner
    pending := p.pending
    resetDemanded := p.resetDemanded
    watchdog := p.watchdog
    freeCount := s.freeCount + 1 }

/-- `IoRead(A)` (R65): the byte, and the state after the read. A device location answers a free value and can change anything in
the device (assumption log 11). -/
def ioRead (s : State) (A : BitVec 6) : Byte × State :=
  match ioOwner s.cfg A with
  | .sreg => (s.sreg, s)
  | .spl => (s.sp.extractLsb' 0 8, s)
  | .sph => (s.sp.extractLsb' 8 8, s)
  | .rampx => (s.rampx, s)
  | .rampy => (s.rampy, s)
  | .rampz => (s.rampz, s)
  | .rampd => (s.rampd, s)
  | .eind => (s.eind, s)
  | .spmcr => (s.spmcr, s)
  | .mcucr => (s.mcucr, s)
  | .device =>
    ((Config.deviceRead s.freeCount A s.devicePart).1,
      s.setDevicePart (Config.deviceRead s.freeCount A s.devicePart).2)
  | .storage => (Memory.read .io s.io A.toNat, s)

/-- `IoWrite(A, v)` (R65). A write to a device location can change anything in the device (assumption log 11). -/
def ioWrite (s : State) (A : BitVec 6) (v : Byte) : State :=
  match ioOwner s.cfg A with
  | .sreg => s.setSreg v
  | .spl => s.setSp (s.sp.extractLsb' 8 8 ++ v)
  | .sph => s.setSp (v ++ s.sp.extractLsb' 0 8)
  | .rampx => { s with rampx := rampMask s.cfg v }
  | .rampy => { s with rampy := rampMask s.cfg v }
  | .rampz => { s with rampz := rampMask s.cfg v }
  | .rampd => { s with rampd := rampMask s.cfg v }
  | .eind => { s with eind := v }
  | .spmcr => { s with spmcr := v }
  | .mcucr => { s with mcucr := v }
  | .device => s.setDevicePart (Config.deviceWrite s.freeCount A v s.devicePart)
  | .storage => { s with io := Memory.write .io s.io A.toNat v }

/-- The location is the device's own and has a `Device.IoSetBit` of its own (R66). -/
def hasOwnSetBit (cfg : Config) (A : BitVec 6) : Bool := ioOwner cfg A == .device && cfg.setBitIo.contains A

/-- `IoSetBit(A, b, v)` (R66): the device's own, or the default: read, replace one bit, write. -/
def ioSetBit (s : State) (A : BitVec 6) (b : BitVec 3) (v : Bool) : State :=
  if hasOwnSetBit s.cfg A then s.setDevicePart (Config.deviceSetBit s.freeCount A b v s.devicePart)
  else ioWrite (ioRead s A).2 A (setBit (ioRead s A).1 b v)

/-! ## The data space (R60 to R64) -/

/-- `Map(a)` (R62). -/
inductive Loc where
  | reg (i : Reg)
  | io (A : BitVec 6)
  | sram
  | unmapped
  deriving DecidableEq, Repr

/-- What lies at a data-space address (R62): the register file, and on parts with SRAM the I/O space and SRAM. -/
def locate (cfg : Config) (a : Nat) : Loc :=
  if cfg.rfBase ≤ a ∧ a < cfg.rfBase + 32 then .reg (BitVec.ofNat 5 (a - cfg.rfBase))
  else if cfg.hasSram ∧ cfg.ioBase ≤ a ∧ a < cfg.ioBase + 64 then .io (BitVec.ofNat 6 (a - cfg.ioBase))
  else if cfg.hasSram ∧ cfg.sramBase ≤ a ∧ a ≤ cfg.ramEnd then .sram
  else .unmapped

/-- `MemRead(a, 1)` (R63): the byte, and the state after the read. -/
def memRead (s : State) (a : Nat) : Result (Byte × State) :=
  match locate s.cfg a with
  | .reg i => .next (s.reg i, s)
  | .io A => .next (ioRead s A)
  | .sram => .next (Memory.read .sram s.sram a, s)
  | .unmapped => .fault (.unmappedData a)

/-- `MemWrite(a, 1, v)` (R64). -/
def memWrite (s : State) (a : Nat) (v : Byte) : Result State :=
  match locate s.cfg a with
  | .reg i => .next (s.setReg i v)
  | .io A => .next (ioWrite s A v)
  | .sram => .next { s with sram := Memory.write .sram s.sram a v }
  | .unmapped => .fault (.unmappedData a)

/-! ## Program memory (R67, R68) -/

/-- `ProgWord(w)` (R67). -/
def progWord (s : State) (w : PcWord) : Result Word :=
  if w.toNat < s.cfg.flashWords then .next (Memory.readWord .prog s.prog w.toNat)
  else .fault (.fetchOutOfRange w)

/-- `ProgByte(b)` (R68). -/
def progByte (s : State) (b : Nat) : Result Byte :=
  if b / 2 < s.cfg.flashWords then .next (Memory.read .prog s.prog b)
  else .fault (.progReadOutOfRange b)

/-! ## The stack (R70 to R73) -/

/-- `n mod 2^SPBITS` (R32). -/
def wrapSp (cfg : Config) (v : Word) : Word :=
  match cfg.spWidth with
  | .bits8 => v &&& 0x00FF
  | .bits16 => v

/-- A stack access at this address hits the stack pointer itself (R87). -/
def stackClash (cfg : Config) (a : Nat) : Bool :=
  match locate cfg a with
  | .io A => ioOwner cfg A == .spl || ioOwner cfg A == .sph
  | _ => false

/-- `Push8(v)` (R70): store at SP, then decrement SP. -/
def push8 (s : State) (v : Byte) : Result State :=
  if stackClash s.cfg s.sp.toNat then .refused (.unpredictableAddress s.sp.toNat)
  else andThen (memWrite s s.sp.toNat v) fun t => .next (t.setSp (wrapSp s.cfg (s.sp - 1)))

/-- `Pop8()` (R71): increment SP, then read at SP. -/
def pop8 (s : State) : Result (Byte × State) :=
  if stackClash s.cfg (wrapSp s.cfg (s.sp + 1)).toNat then
    .refused (.unpredictableAddress (wrapSp s.cfg (s.sp + 1)).toNat)
  else memRead (s.setSp (wrapSp s.cfg (s.sp + 1))) (wrapSp s.cfg (s.sp + 1)).toNat

/-- The bytes of a return address, least significant first (R72): two, or three when PCBYTES is 3. -/
def pcByte0 (t : PcWord) : Byte := t.extractLsb' 0 8
/-- Bits 15:8 of a return address. -/
def pcByte1 (t : PcWord) : Byte := t.extractLsb' 8 8
/-- Bits 23:16 of a return address, 23:22 being 0. -/
def pcByte2 (t : PcWord) : Byte := 0#2 ++ t.extractLsb' 16 6

/-- `PushPC(t)` (R72). -/
def pushPc (s : State) (t : PcWord) : Result State :=
  andThen (push8 s (pcByte0 (wrapPc s.cfg t.toNat))) fun s1 =>
  andThen (push8 s1 (pcByte1 (wrapPc s.cfg t.toNat))) fun s2 =>
  if s.cfg.pcBytes = 3 then push8 s2 (pcByte2 (wrapPc s.cfg t.toNat)) else .next s2

/-- `PopPC()` (R73): the address, and the state after the pops. -/
def popPc (s : State) : Result (PcWord × State) :=
  andThen (if s.cfg.pcBytes = 3 then pop8 s else .next (0, s)) fun h2 =>
  andThen (pop8 h2.2) fun h =>
  andThen (pop8 h.2) fun l =>
  .next (wrapPc s.cfg (h2.1 ++ h.1 ++ l.1).toNat, l.2)

/-! ## Skips (R99, R201) -/

/-- `SkipLen()` (R99): 3 before a two-word instruction, else 2. -/
def skipLen (s : State) : Result Nat :=
  andThen (progWord s (s.pcPlus 1)) fun w => .next (if isTwoWord w then 3 else 2)

/-- The effect of a skip instruction whose condition is `cond`. -/
def skipIf (cond : Bool) (s : State) : Result State :=
  if cond then andThen (skipLen s) fun n => .next (s.advance n) else .next (s.advance 1)

/-! ## Interrupts: the one exception entry of the machine, and the return (spec/60) -/

/-- `VECTOR(n)`, n from 1 (R337). -/
def vector (cfg : Config) (n : Nat) : PcWord := wrapPc cfg (cfg.vectors.getD (n - 1) 0).toNat

/-- TAKING AN INTERRUPT from source `n` (R337): push the PC, clear I, acknowledge the request, end a sleep (R350), go to
`VECTOR(n)`. -/
def takeInterrupt (n : Nat) (s : State) : Result State :=
  andThen (pushPc s s.pc) fun t => .next
    { t with
      sreg := setFlag t.sreg .I false
      pending := t.pending.filter fun m => m != n
      sleeping := false
      pc := vector s.cfg n }

/-- RETURNING FROM AN INTERRUPT (R170, R339): pop the PC, set I, restore nothing else. -/
def returnFromInterrupt (s : State) : Result State :=
  andThen (popPc s) fun r => .next ((r.2.setSreg (setFlag r.2.sreg .I true)).setPc r.1)

/-- Returning from a subroutine (R169): pop the PC. -/
def returnFromSubroutine (s : State) : Result State :=
  andThen (popPc s) fun r => .next (r.2.setPc r.1)

/-- Calling a subroutine (R165 to R168): push the return address, go to the target. -/
def callTo (s : State) (returnAddress target : PcWord) : Result State :=
  andThen (pushPc s returnAddress) fun t => .next (t.setPc target)

end Sys2Proof.Machine
end

