-- ==== Sys2Proof/Machine/Operands.lean ====
section
/-! DEFINITION. The operand forms: the pointers X, Y and Z with their addressing forms (spec/20 R74 to R76, R87), direct
addresses, program memory addresses, and jump targets. -/

namespace Sys2Proof.Machine

/-- The pointer registers (R21). -/
inductive Ptr where
  | X
  | Y
  | Z
  deriving DecidableEq, Repr

/-- The low register of a pointer. -/
def Ptr.lo : Ptr → Reg
  | .X => 26
  | .Y => 28
  | .Z => 30

/-- The RAMP register of a pointer (R74). -/
def Ptr.ramp (p : Ptr) (s : State) : Byte :=
  match p with
  | .X => s.rampx
  | .Y => s.rampy
  | .Z => s.rampz

/-- The RAMP register of a pointer written, in the bits that exist (R33, R75). -/
def Ptr.setRamp (p : Ptr) (s : State) (v : Byte) : State :=
  match p with
  | .X => { s with rampx := rampMask s.cfg v }
  | .Y => { s with rampy := rampMask s.cfg v }
  | .Z => { s with rampz := rampMask s.cfg v }

/-- The I/O register that is a pointer's RAMP register. -/
def Ptr.rampIo : Ptr → IoReg
  | .X => .rampx
  | .Y => .rampy
  | .Z => .rampz

/-- `PTRMOD` (R74). -/
def ptrMod (cfg : Config) : Nat :=
  match cfg.dataClass with
  | .le256 => 2 ^ 8
  | .le64K => 2 ^ 16
  | .gt64K => 2 ^ (16 + cfg.rampBits)

/-- `PtrGet(P)` (R74). -/
def ptrGet (s : State) (p : Ptr) : Nat :=
  match s.cfg.dataClass with
  | .le256 => (s.reg p.lo).toNat
  | .le64K => (s.pair p.lo).toNat
  | .gt64K => (p.ramp s ++ s.pair p.lo).toNat

/-- `PtrSet(P, v)` (R75). -/
def ptrSet (s : State) (p : Ptr) (v : Nat) : State :=
  match s.cfg.dataClass with
  | .le256 => s.setReg p.lo (BitVec.ofNat 8 v)
  | .le64K => s.setPair p.lo (BitVec.ofNat 16 v)
  | .gt64K => p.setRamp (s.setPair p.lo (BitVec.ofNat 16 v)) (BitVec.ofNat 8 (v / 2 ^ 16))

/-- The address `a + 1`, where a post-increment leaves the pointer (R76). -/
def ptrSucc (cfg : Config) (a : Nat) : Nat := (a + 1) % ptrMod cfg

/-- The address of the form `-P` (R76). -/
def eaDec (s : State) (p : Ptr) : Nat := (ptrGet s p + (ptrMod s.cfg - 1)) % ptrMod s.cfg

/-- The address of the form `P+q` (R76). -/
def eaDisp (s : State) (p : Ptr) (q : BitVec 6) : Nat := (ptrGet s p + q.toNat) % ptrMod s.cfg

/-- The address of the direct form (R76): `RAMPD : k` with more than 64K bytes of data space. -/
def eaDirect (s : State) (k : Word) : Nat :=
  match s.cfg.dataClass with
  | .gt64K => (s.rampd ++ k).toNat
  | _ => k.toNat

/-- `Guard(P, EA)` fails (R87): the address falls on the pointer's own registers, or on its RAMP register. -/
def ptrClash (cfg : Config) (p : Ptr) (a : Nat) : Bool :=
  match locate cfg a with
  | .reg i => i == p.lo || i == p.lo + 1
  | .io A => ioOwner cfg A == p.rampIo && cfg.dataClass == .gt64K
  | _ => false

/-- The register named is one of the pointer's own (R229). -/
def isPtrReg (p : Ptr) (d : Reg) : Bool := d == p.lo || d == p.lo + 1

/-- The first word of an instruction, the argument of the outcome of R229. -/
def firstWord (i : Instr) : Word := (encode i).headD 0

/-- Z as LPM, SPM, IJMP and ICALL use it: all 16 bits on every device (R162, R250). -/
def zWord (s : State) : Word := s.pair 30

/-- `RAMPZ : Z` as ELPM and ESPM use it (R253, R263). DESIGN CHOICE (assumption log 39): on a device that implements them and has
no RAMPZ (R33) the field `rampz` is used as on the others. -/
def rampzZ (s : State) : Nat := (s.rampz ++ s.pair 30).toNat

/-- `EIND[5:0] : Z` (R163, R167). -/
def eindZ (s : State) : PcWord := s.eind.extractLsb' 0 6 ++ s.pair 30

/-! ## Loads and stores over the forms (spec/42 sections 3 to 5) -/

/-- `x[d] <- MemRead(a, 1)`, then the PC moves past `n` words. -/
def loadByte (s : State) (d : Reg) (a : Nat) (n : Nat) : Result State :=
  andThen (memRead s a) fun r => .next ((r.2.setReg d r.1).advance n)

/-- `MemWrite(a, 1, v)`, then the PC moves past `n` words. -/
def storeByte (s : State) (a : Nat) (v : Byte) (n : Nat) : Result State :=
  andThen (memWrite s a v) fun t => .next (t.advance n)

/-- The checks of a form that updates its pointer: the data register first (R229), then the address (R87). -/
def guarded (s : State) (p : Ptr) (d : Reg) (i : Instr) (a : Nat) (go : Result State) : Result State :=
  if isPtrReg p d then .refused (.unpredictableWord (firstWord i))
  else if ptrClash s.cfg p a then .refused (.unpredictableAddress a)
  else go

/-- A load of the form `P+` (R226, R231, R235). -/
def loadInc (s : State) (p : Ptr) (d : Reg) (i : Instr) : Result State :=
  guarded s p d i (ptrGet s p) <|
    andThen (memRead s (ptrGet s p)) fun r =>
    .next ((ptrSet (r.2.setReg d r.1) p (ptrSucc s.cfg (ptrGet s p))).advance 1)

/-- A load of the form `-P` (R227, R232, R236). -/
def loadDec (s : State) (p : Ptr) (d : Reg) (i : Instr) : Result State :=
  guarded s p d i (eaDec s p) (loadByte (ptrSet s p (eaDec s p)) d (eaDec s p) 1)

/-- A store of the form `P+` (R240, R243, R247). -/
def storeInc (s : State) (p : Ptr) (r : Reg) (i : Instr) : Result State :=
  guarded s p r i (ptrGet s p) <|
    andThen (memWrite s (ptrGet s p) (s.reg r)) fun t =>
    .next ((ptrSet t p (ptrSucc s.cfg (ptrGet s p))).advance 1)

/-- A store of the form `-P` (R241, R244, R248). -/
def storeDec (s : State) (p : Ptr) (r : Reg) (i : Instr) : Result State :=
  guarded s p r i (eaDec s p) (storeByte (ptrSet s p (eaDec s p)) (eaDec s p) (s.reg r) 1)

/-- `x[d] <- ProgByte(b)` (R250 to R255). -/
def loadProgram (s : State) (d : Reg) (b : Nat) : Result State :=
  andThen (progByte s b) fun v => .next ((s.setReg d v).advance 1)

/-! ## Writing program memory (R262, R263), where the device defines it -/

/-- The word of program memory an SPM address names. DESIGN CHOICE (assumption log 18): R262 leaves the meaning of the bits of Z to
the device; bit 0 of a byte address is dropped. -/
def spmWord (dev : SpmDevice) (z : Nat) : Nat := if dev.byteAddress then z / 2 else z

/-- The first word of its page. DESIGN CHOICE (assumption log 18): an erase and a page write take the page that the address lies in,
dropping its bits below the page size; R262 leaves them to the device. -/
def spmPage (dev : SpmDevice) (z : Nat) : Nat := spmWord dev z / dev.pageWords * dev.pageWords

/-- The words of program memory SPM and ESPM can address: "the first 64K bytes (32K words)" for SPM, "the entire program memory"
for ESPM (R262, R263). -/
def spmReach (cfg : Config) (m : Mnemonic) : Nat :=
  match m with
  | .SPM => min cfg.flashWords 0x8000
  | _ => cfg.flashWords

/-- The effect of one of the five operations at address `z`, with R1:R0 as data. A page or word that the instruction cannot
address is refused: what the device does there is not in the spec. DESIGN CHOICE (assumption log 18): besides program memory, the
page buffer and the lock bits the operation leaves everything of the device as it is. -/
def spmApply (dev : SpmDevice) (op : SpmOp) (m : Mnemonic) (z : Nat) (s : State) : Result State :=
  match op with
  | .erasePage =>
    if spmPage dev z + dev.pageWords ≤ spmReach s.cfg m then
      .next { s with prog := Memory.writeWords .prog s.prog (spmPage dev z) dev.pageWords (fun _ => 0xFFFF) }
    else .refused (.deviceSpecific m)
  | .writeWord =>
    if spmWord dev z < spmReach s.cfg m then
      .next { s with prog := Memory.writeWord .prog s.prog (spmWord dev z) (s.pair 0) }
    else .refused (.deviceSpecific m)
  | .fillBuffer =>
    .next { s with pageBuffer :=
      Memory.writeWord .pageBuffer s.pageBuffer (spmWord dev z % dev.pageWords) (s.pair 0) }
  | .writePage =>
    if spmPage dev z + dev.pageWords ≤ spmReach s.cfg m then
      .next { s with prog :=
        Memory.writeWords .prog s.prog (spmPage dev z) dev.pageWords (Memory.readWord .pageBuffer s.pageBuffer) }
    else .refused (.deviceSpecific m)
  | .setLockBits => .next { s with blbits := s.pair 0 }

/-- SPM or ESPM at address `z`: the operation SPMCR selects on a device that defines it, else a refusal (R262). DESIGN CHOICE
(assumption log 18): SPMCR keeps its value, so a second SPM repeats the operation; R36 and R262 leave it to the device. -/
def storeProgram (m : Mnemonic) (z : Nat) (s : State) : Result State :=
  match s.cfg.spm with
  | none => .refused (.deviceSpecific m)
  | some dev =>
    match dev.commands.lookup s.spmcr with
    | none => .refused (.deviceSpecific m)
    | some op => andThen (spmApply dev op m z s) fun t => .next (t.advance 1)

end Sys2Proof.Machine
end

