-- ==== Sys2Proof/Machine/Arithmetic.lean ====
section
/-! DEFINITION. The arithmetic and logic instructions (spec/40), the compares (spec/41 section 4), the shifts, rotates and SWAP
(spec/43 section 2). Every meaning reads its operands before it writes (R120). -/

namespace Sys2Proof.Machine

/-! ## Shared shapes -/

/-- Write a result register and SREG, go to the next word. -/
def finishReg (s : State) (d : Reg) (r : Byte) (sreg : Byte) : Result State :=
  .next (((s.setReg d r).setSreg sreg).advance 1)

/-- Write SREG only, go to the next word. -/
def finishFlags (s : State) (sreg : Byte) : Result State := .next ((s.setSreg sreg).advance 1)

/-- A logic instruction: the result and the flags of R16. -/
def finishLogic (s : State) (d : Reg) (r : Byte) : Result State := finishReg s d r (setFlagsLogic s.sreg r)

/-- A 16-bit result in a register pair, with the flags of R123 and R128. -/
def finishWord (s : State) (d : Reg) (r : Word) (v c : Bool) : Result State :=
  .next (((s.setPair d r).setSreg (setFlagsWord s.sreg r v c)).advance 1)

/-- A multiply: `result` to R1:R0, flags from the product before the shift and from the result (R143 to R148). -/
def finishMultiply (s : State) (product result : Word) : Result State :=
  .next (((s.setPair 0 result).setSreg (setFlagsMultiply s.sreg product result)).advance 1)

/-- The 16 low bits of a product of two numbers (R143 to R148). -/
def product16 (x y : Int) : Word := BitVec.ofInt 16 (x * y)

/-- The product shifted left by one, in 16 bits (R146 to R148). -/
def fractional (p : Word) : Word := p <<< 1

/-! ## Addition -/

/-- ADD (R121). -/
def execAdd (d r : Reg) (s : State) : Result State :=
  finishReg s d (add8 (s.reg d) (s.reg r) false).result
    (setFlagsAddSub s.sreg (add8 (s.reg d) (s.reg r) false))

/-- ADC (R122). -/
def execAdc (d r : Reg) (s : State) : Result State :=
  finishReg s d (add8 (s.reg d) (s.reg r) (s.flag .C)).result
    (setFlagsAddSub s.sreg (add8 (s.reg d) (s.reg r) (s.flag .C)))

/-- ADIW (R123). -/
def execAdiw (d : Reg) (K : BitVec 6) (s : State) : Result State :=
  let a := s.pair d
  let res := BitVec.ofNat 16 (a.toNat + K.toNat)
  finishWord s d res (!a.msb && res.msb) (!res.msb && a.msb)

/-! ## Subtraction -/

/-- SUB (R124). -/
def execSub (d r : Reg) (s : State) : Result State :=
  finishReg s d (sub8 (s.reg d) (s.reg r) false).result
    (setFlagsAddSub s.sreg (sub8 (s.reg d) (s.reg r) false))

/-- SUBI (R125). -/
def execSubi (d : Reg) (K : Byte) (s : State) : Result State :=
  finishReg s d (sub8 (s.reg d) K false).result (setFlagsAddSub s.sreg (sub8 (s.reg d) K false))

/-- SBC (R126). -/
def execSbc (d r : Reg) (s : State) : Result State :=
  finishReg s d (sub8 (s.reg d) (s.reg r) (s.flag .C)).result
    (setFlagsSubCarry s.sreg (sub8 (s.reg d) (s.reg r) (s.flag .C)))

/-- SBCI (R127). -/
def execSbci (d : Reg) (K : Byte) (s : State) : Result State :=
  finishReg s d (sub8 (s.reg d) K (s.flag .C)).result
    (setFlagsSubCarry s.sreg (sub8 (s.reg d) K (s.flag .C)))

/-- SBIW (R128). -/
def execSbiw (d : Reg) (K : BitVec 6) (s : State) : Result State :=
  let a := s.pair d
  let res := BitVec.ofInt 16 ((a.toNat : Int) - K.toNat)
  finishWord s d res (a.msb && !res.msb) (res.msb && !a.msb)

/-! ## Logic -/

/-- AND (R129). -/
def execLand (d r : Reg) (s : State) : Result State := finishLogic s d (s.reg d &&& s.reg r)

/-- ANDI (R130). -/
def execAndi (d : Reg) (K : Byte) (s : State) : Result State := finishLogic s d (s.reg d &&& K)

/-- OR (R131). -/
def execLor (d r : Reg) (s : State) : Result State := finishLogic s d (s.reg d ||| s.reg r)

/-- ORI (R132). -/
def execOri (d : Reg) (K : Byte) (s : State) : Result State := finishLogic s d (s.reg d ||| K)

/-- EOR (R133). -/
def execEor (d r : Reg) (s : State) : Result State := finishLogic s d (s.reg d ^^^ s.reg r)

/-- COM (R134). -/
def execCom (d : Reg) (s : State) : Result State :=
  finishReg s d (0xFF - s.reg d) (setFlag (setNZS s.sreg (0xFF - s.reg d) false) .C true)

/-- NEG (R135). -/
def execNeg (d : Reg) (s : State) : Result State :=
  finishReg s d (0 - s.reg d) (setFlagsNeg s.sreg (s.reg d) (0 - s.reg d))

/-- SBR, the operation of ORI (R136). -/
def execSbr (d : Reg) (K : Byte) (s : State) : Result State := finishLogic s d (s.reg d ||| K)

/-- CBR, the operation of ANDI with $FF - K (R137). -/
def execCbr (d : Reg) (K : Byte) (s : State) : Result State := finishLogic s d (s.reg d &&& (0xFF - K))

/-- INC (R138): C and H keep their values. -/
def execInc (d : Reg) (s : State) : Result State :=
  finishReg s d (s.reg d + 1) (setNZS s.sreg (s.reg d + 1) (s.reg d + 1 == 0x80))

/-- DEC (R139): C and H keep their values. -/
def execDec (d : Reg) (s : State) : Result State :=
  finishReg s d (s.reg d - 1) (setNZS s.sreg (s.reg d - 1) (s.reg d - 1 == 0x7F))

/-- TST (R140): the register keeps its value. -/
def execTst (d : Reg) (s : State) : Result State := finishFlags s (setFlagsLogic s.sreg (s.reg d))

/-- CLR (R141). -/
def execClr (d : Reg) (s : State) : Result State := finishLogic s d 0

/-- SER (R142): no flag. -/
def execSer (d : Reg) (s : State) : Result State := finishReg s d 0xFF s.sreg

/-! ## Multiplication -/

/-- MUL (R143): unsigned by unsigned. -/
def execMul (d r : Reg) (s : State) : Result State :=
  finishMultiply s (product16 (s.reg d).toNat (s.reg r).toNat) (product16 (s.reg d).toNat (s.reg r).toNat)

/-- MULS (R144): signed by signed. -/
def execMuls (d r : Reg) (s : State) : Result State :=
  finishMultiply s (product16 (s.reg d).toInt (s.reg r).toInt) (product16 (s.reg d).toInt (s.reg r).toInt)

/-- MULSU (R145): signed by unsigned. -/
def execMulsu (d r : Reg) (s : State) : Result State :=
  finishMultiply s (product16 (s.reg d).toInt (s.reg r).toNat) (product16 (s.reg d).toInt (s.reg r).toNat)

/-- FMUL (R146): unsigned by unsigned, shifted. -/
def execFmul (d r : Reg) (s : State) : Result State :=
  finishMultiply s (product16 (s.reg d).toNat (s.reg r).toNat)
    (fractional (product16 (s.reg d).toNat (s.reg r).toNat))

/-- FMULS (R147): signed by signed, shifted. -/
def execFmuls (d r : Reg) (s : State) : Result State :=
  finishMultiply s (product16 (s.reg d).toInt (s.reg r).toInt)
    (fractional (product16 (s.reg d).toInt (s.reg r).toInt))

/-- FMULSU (R148): signed by unsigned, shifted. -/
def execFmulsu (d r : Reg) (s : State) : Result State :=
  finishMultiply s (product16 (s.reg d).toInt (s.reg r).toNat)
    (fractional (product16 (s.reg d).toInt (s.reg r).toNat))

/-! ## Compares -/

/-- CP (R172). -/
def execCp (d r : Reg) (s : State) : Result State :=
  finishFlags s (setFlagsAddSub s.sreg (sub8 (s.reg d) (s.reg r) false))

/-- CPC (R173). -/
def execCpc (d r : Reg) (s : State) : Result State :=
  finishFlags s (setFlagsSubCarry s.sreg (sub8 (s.reg d) (s.reg r) (s.flag .C)))

/-- CPI (R174). -/
def execCpi (d : Reg) (K : Byte) (s : State) : Result State :=
  finishFlags s (setFlagsAddSub s.sreg (sub8 (s.reg d) K false))

/-! ## Shifts and rotates -/

/-- LSL (R281). -/
def execLsl (d : Reg) (s : State) : Result State :=
  finishReg s d (s.reg d <<< 1) (setFlagsShiftLeft s.sreg (s.reg d) (s.reg d <<< 1))

/-- The register rotated left through the carry (R283). -/
def rolByte (a : Byte) (cin : Bool) : Byte := a.extractLsb' 0 7 ++ BitVec.ofBool cin

/-- ROL (R283). -/
def execRol (d : Reg) (s : State) : Result State :=
  finishReg s d (rolByte (s.reg d) (s.flag .C))
    (setFlagsShiftLeft s.sreg (s.reg d) (rolByte (s.reg d) (s.flag .C)))

/-- The register shifted right by one with `top` as its new bit 7 (R282, R284, R285). -/
def shiftRightIn (top : Bool) (a : Byte) : Byte := BitVec.ofBool top ++ a.extractLsb' 1 7

/-- A right shift: bit 0 goes to C (R17). -/
def finishShiftRight (s : State) (d : Reg) (top : Bool) : Result State :=
  finishReg s d (shiftRightIn top (s.reg d))
    (setFlagsShiftRight s.sreg (shiftRightIn top (s.reg d)) ((s.reg d).getLsbD 0))

/-- LSR (R282). -/
def execLsr (d : Reg) (s : State) : Result State := finishShiftRight s d false

/-- ROR (R284). -/
def execRor (d : Reg) (s : State) : Result State := finishShiftRight s d (s.flag .C)

/-- ASR (R285). -/
def execAsr (d : Reg) (s : State) : Result State := finishShiftRight s d (s.reg d).msb

/-- SWAP (R286): no flag. -/
def execSwap (d : Reg) (s : State) : Result State :=
  finishReg s d ((s.reg d).extractLsb' 0 4 ++ (s.reg d).extractLsb' 4 4) s.sreg

end Sys2Proof.Machine
end

