-- ==== Sys2Proof/Machine/Branch.lean ====
section
/-! DEFINITION. The jumps, calls, returns, skips and conditional branches (spec/41). -/

namespace Sys2Proof.Machine

/-! ## Jumps -/

/-- RJMP (R161). -/
def execRjmp (k : BitVec 12) (s : State) : Result State := .next (s.setPc (s.relTarget k.toInt))

/-- IJMP (R162). -/
def execIjmp (s : State) : Result State := .next (s.setPc (wrapPc s.cfg (zWord s).toNat))

/-- EIJMP (R163). -/
def execEijmp (s : State) : Result State := .next (s.setPc (wrapPc s.cfg (eindZ s).toNat))

/-- JMP (R164). -/
def execJmp (k : BitVec 22) (s : State) : Result State := .next (s.setPc (wrapPc s.cfg k.toNat))

/-! ## Calls and returns -/

/-- RCALL (R165). -/
def execRcall (k : BitVec 12) (s : State) : Result State := callTo s (s.pcPlus 1) (s.relTarget k.toInt)

/-- ICALL (R166): Z is read before the push. -/
def execIcall (s : State) : Result State := callTo s (s.pcPlus 1) (wrapPc s.cfg (zWord s).toNat)

/-- EICALL (R167): EIND and Z are read before the push. -/
def execEicall (s : State) : Result State := callTo s (s.pcPlus 1) (wrapPc s.cfg (eindZ s).toNat)

/-- CALL (R168): two words long. -/
def execCall (k : BitVec 22) (s : State) : Result State := callTo s (s.pcPlus 2) (wrapPc s.cfg k.toNat)

/-- RET (R169). -/
def execRet (s : State) : Result State := returnFromSubroutine s

/-- RETI (R170). -/
def execReti (s : State) : Result State := returnFromInterrupt s

/-! ## Skips -/

/-- CPSE (R171). -/
def execCpse (d r : Reg) (s : State) : Result State := skipIf (s.reg d == s.reg r) s

/-- SBRC (R175). -/
def execSbrc (r : Reg) (b : BitVec 3) (s : State) : Result State := skipIf (!(s.reg r).getLsbD b.toNat) s

/-- SBRS (R176). -/
def execSbrs (r : Reg) (b : BitVec 3) (s : State) : Result State := skipIf ((s.reg r).getLsbD b.toNat) s

/-- The I/O address of the instructions that reach the lower 32 locations (R177). -/
def lowIo (A : BitVec 5) : BitVec 6 := 0#1 ++ A

/-- SBIC (R177): one read of the location. -/
def execSbic (A : BitVec 5) (b : BitVec 3) (s : State) : Result State :=
  skipIf (!(ioRead s (lowIo A)).1.getLsbD b.toNat) (ioRead s (lowIo A)).2

/-- SBIS (R178): one read of the location. -/
def execSbis (A : BitVec 5) (b : BitVec 3) (s : State) : Result State :=
  skipIf ((ioRead s (lowIo A)).1.getLsbD b.toNat) (ioRead s (lowIo A)).2

/-! ## Conditional branches -/

/-- `pc + k + 1` if the condition holds, else `pc + 1` (R179, R180). -/
def branchIf (cond : Bool) (k : BitVec 7) (s : State) : Result State :=
  if cond then .next (s.setPc (s.relTarget k.toInt)) else .next (s.advance 1)

/-- BRBS (R179). -/
def execBrbs (f : BitVec 3) (k : BitVec 7) (s : State) : Result State := branchIf (s.flag f) k s

/-- BRBC (R180). -/
def execBrbc (f : BitVec 3) (k : BitVec 7) (s : State) : Result State := branchIf (!s.flag f) k s

/-- BREQ (R181): branches if Z is set. -/
def execBreq (k : BitVec 7) (s : State) : Result State := branchIf (s.flag .Z) k s

/-- BRNE (R182): branches if Z is cleared. -/
def execBrne (k : BitVec 7) (s : State) : Result State := branchIf (!s.flag .Z) k s

/-- BRCS (R183): branches if C is set. -/
def execBrcs (k : BitVec 7) (s : State) : Result State := branchIf (s.flag .C) k s

/-- BRCC (R184): branches if C is cleared. -/
def execBrcc (k : BitVec 7) (s : State) : Result State := branchIf (!s.flag .C) k s

/-- BRSH (R185): branches if C is cleared. -/
def execBrsh (k : BitVec 7) (s : State) : Result State := branchIf (!s.flag .C) k s

/-- BRLO (R186): branches if C is set. -/
def execBrlo (k : BitVec 7) (s : State) : Result State := branchIf (s.flag .C) k s

/-- BRMI (R187): branches if N is set. -/
def execBrmi (k : BitVec 7) (s : State) : Result State := branchIf (s.flag .N) k s

/-- BRPL (R188): branches if N is cleared. -/
def execBrpl (k : BitVec 7) (s : State) : Result State := branchIf (!s.flag .N) k s

/-- BRGE (R189): branches if S is cleared. -/
def execBrge (k : BitVec 7) (s : State) : Result State := branchIf (!s.flag .S) k s

/-- BRLT (R190): branches if S is set. -/
def execBrlt (k : BitVec 7) (s : State) : Result State := branchIf (s.flag .S) k s

/-- BRHS (R191): branches if H is set. -/
def execBrhs (k : BitVec 7) (s : State) : Result State := branchIf (s.flag .H) k s

/-- BRHC (R192): branches if H is cleared. -/
def execBrhc (k : BitVec 7) (s : State) : Result State := branchIf (!s.flag .H) k s

/-- BRTS (R193): branches if T is set. -/
def execBrts (k : BitVec 7) (s : State) : Result State := branchIf (s.flag .T) k s

/-- BRTC (R194): branches if T is cleared. -/
def execBrtc (k : BitVec 7) (s : State) : Result State := branchIf (!s.flag .T) k s

/-- BRVS (R195): branches if V is set. -/
def execBrvs (k : BitVec 7) (s : State) : Result State := branchIf (s.flag .V) k s

/-- BRVC (R196): branches if V is cleared. -/
def execBrvc (k : BitVec 7) (s : State) : Result State := branchIf (!s.flag .V) k s

/-- BRIE (R197): branches if I is set. -/
def execBrie (k : BitVec 7) (s : State) : Result State := branchIf (s.flag .I) k s

/-- BRID (R198): branches if I is cleared. -/
def execBrid (k : BitVec 7) (s : State) : Result State := branchIf (!s.flag .I) k s

end Sys2Proof.Machine
end

