-- ==== Sys2Proof/Machine/BitMcu.lean ====
section
/-! DEFINITION. The single bits of I/O registers, general registers and SREG, and the MCU control instructions (spec/43). -/

namespace Sys2Proof.Machine

/-! ## Bits of I/O registers and general registers -/

/-- SBI (R287). -/
def execSbi (A : BitVec 5) (b : BitVec 3) (s : State) : Result State :=
  .next ((ioSetBit s (lowIo A) b true).advance 1)

/-- CBI (R288). -/
def execCbi (A : BitVec 5) (b : BitVec 3) (s : State) : Result State :=
  .next ((ioSetBit s (lowIo A) b false).advance 1)

/-- BST (R289). -/
def execBst (d : Reg) (b : BitVec 3) (s : State) : Result State :=
  .next ((s.setSreg (setFlag s.sreg .T ((s.reg d).getLsbD b.toNat))).advance 1)

/-- BLD (R290). -/
def execBld (d : Reg) (b : BitVec 3) (s : State) : Result State :=
  .next ((s.setReg d (setBit (s.reg d) b (s.flag .T))).advance 1)

/-! ## Single flags of SREG -/

/-- One flag written, nothing else but the PC (R293, R294). -/
def writeFlag (f : Flag) (v : Bool) (s : State) : Result State :=
  .next ((s.setSreg (setFlag s.sreg f v)).advance 1)

/-- BSET (R293). -/
def execBset (f : BitVec 3) (s : State) : Result State := writeFlag f true s

/-- BCLR (R294). -/
def execBclr (f : BitVec 3) (s : State) : Result State := writeFlag f false s

/-- SEC (R295). -/
def execSec (s : State) : Result State := writeFlag .C true s

/-- CLC (R296). -/
def execClc (s : State) : Result State := writeFlag .C false s

/-- SEN (R297). -/
def execSen (s : State) : Result State := writeFlag .N true s

/-- CLN (R298). -/
def execCln (s : State) : Result State := writeFlag .N false s

/-- SEZ (R299). -/
def execSez (s : State) : Result State := writeFlag .Z true s

/-- CLZ (R300). -/
def execClz (s : State) : Result State := writeFlag .Z false s

/-- SEI (R301). -/
def execSei (s : State) : Result State := writeFlag .I true s

/-- CLI (R302). -/
def execCli (s : State) : Result State := writeFlag .I false s

/-- SES (R303). -/
def execSes (s : State) : Result State := writeFlag .S true s

/-- CLS (R304). -/
def execCls (s : State) : Result State := writeFlag .S false s

/-- SEV (R305). -/
def execSev (s : State) : Result State := writeFlag .V true s

/-- CLV (R306). -/
def execClv (s : State) : Result State := writeFlag .V false s

/-- SET (R307). -/
def execSetT (s : State) : Result State := writeFlag .T true s

/-- CLT (R308). -/
def execClt (s : State) : Result State := writeFlag .T false s

/-- SEH (R309). -/
def execSeh (s : State) : Result State := writeFlag .H true s

/-- CLH (R310). -/
def execClh (s : State) : Result State := writeFlag .H false s

/-! ## MCU control -/

/-- NOP (R311). -/
def execNop (s : State) : Result State := .next (s.advance 1)

/-- `Device.Sleep()` holds the core (R312, R350): what the device's MCU control register asks for. -/
def sleepHolds (s : State) : Bool :=
  match s.cfg.sleepHold with
  | some (mask, value) => s.mcucr &&& mask == value
  | none => false

/-- SLEEP (R312). -/
def execSleep (s : State) : Result State :=
  .next { s.advance 1 with sleeping := s.sleeping || sleepHolds s }

/-- WDR (R313): the watchdog timer restarts. -/
def execWdr (s : State) : Result State := .next { s.advance 1 with watchdog := 0 }

end Sys2Proof.Machine
end

