-- ==== Sys2Proof/Machine/Transfer.lean ====
section
/-! DEFINITION. The data transfer instructions (spec/42): no flag is written unless SREG is the location stored to (R220). -/

namespace Sys2Proof.Machine

/-! ## Register to register, and immediate -/

/-- MOV (R221). -/
def execMov (d r : Reg) (s : State) : Result State := .next ((s.setReg d (s.reg r)).advance 1)

/-- MOVW (R222). -/
def execMovw (d r : Reg) (s : State) : Result State := .next ((s.setPair d (s.pair r)).advance 1)

/-- LDI (R223). -/
def execLdi (d : Reg) (K : Byte) (s : State) : Result State := .next ((s.setReg d K).advance 1)

/-! ## Loads from the data space -/

/-- LDS (R224). -/
def execLds (d : Reg) (k : BitVec 16) (s : State) : Result State := loadByte s d (eaDirect s k) 2

/-- LD Rd,X (R225). -/
def execLdX (d : Reg) (s : State) : Result State := loadByte s d (ptrGet s .X) 1

/-- LD Rd,X+ (R226). -/
def execLdXInc (d : Reg) (s : State) : Result State := loadInc s .X d (.ldXInc d)

/-- LD Rd,-X (R227). -/
def execLdXDec (d : Reg) (s : State) : Result State := loadDec s .X d (.ldXDec d)

/-- LD Rd,Y (R230). -/
def execLdY (d : Reg) (s : State) : Result State := loadByte s d (ptrGet s .Y) 1

/-- LD Rd,Y+ (R231). -/
def execLdYInc (d : Reg) (s : State) : Result State := loadInc s .Y d (.ldYInc d)

/-- LD Rd,-Y (R232). -/
def execLdYDec (d : Reg) (s : State) : Result State := loadDec s .Y d (.ldYDec d)

/-- LDD Rd,Y+q (R233). -/
def execLddY (d : Reg) (q : BitVec 6) (s : State) : Result State := loadByte s d (eaDisp s .Y q) 1

/-- LD Rd,Z (R234). -/
def execLdZ (d : Reg) (s : State) : Result State := loadByte s d (ptrGet s .Z) 1

/-- LD Rd,Z+ (R235). -/
def execLdZInc (d : Reg) (s : State) : Result State := loadInc s .Z d (.ldZInc d)

/-- LD Rd,-Z (R236). -/
def execLdZDec (d : Reg) (s : State) : Result State := loadDec s .Z d (.ldZDec d)

/-- LDD Rd,Z+q (R237). -/
def execLddZ (d : Reg) (q : BitVec 6) (s : State) : Result State := loadByte s d (eaDisp s .Z q) 1

/-! ## Stores to the data space -/

/-- STS (R238). -/
def execSts (k : BitVec 16) (r : Reg) (s : State) : Result State := storeByte s (eaDirect s k) (s.reg r) 2

/-- ST X,Rr (R239). -/
def execStX (r : Reg) (s : State) : Result State := storeByte s (ptrGet s .X) (s.reg r) 1

/-- ST X+,Rr (R240). -/
def execStXInc (r : Reg) (s : State) : Result State := storeInc s .X r (.stXInc r)

/-- ST -X,Rr (R241). -/
def execStXDec (r : Reg) (s : State) : Result State := storeDec s .X r (.stXDec r)

/-- ST Y,Rr (R242). -/
def execStY (r : Reg) (s : State) : Result State := storeByte s (ptrGet s .Y) (s.reg r) 1

/-- ST Y+,Rr (R243). -/
def execStYInc (r : Reg) (s : State) : Result State := storeInc s .Y r (.stYInc r)

/-- ST -Y,Rr (R244). -/
def execStYDec (r : Reg) (s : State) : Result State := storeDec s .Y r (.stYDec r)

/-- STD Y+q,Rr (R245). -/
def execStdY (q : BitVec 6) (r : Reg) (s : State) : Result State :=
  storeByte s (eaDisp s .Y q) (s.reg r) 1

/-- ST Z,Rr (R246). -/
def execStZ (r : Reg) (s : State) : Result State := storeByte s (ptrGet s .Z) (s.reg r) 1

/-- ST Z+,Rr (R247). -/
def execStZInc (r : Reg) (s : State) : Result State := storeInc s .Z r (.stZInc r)

/-- ST -Z,Rr (R248). -/
def execStZDec (r : Reg) (s : State) : Result State := storeDec s .Z r (.stZDec r)

/-- STD Z+q,Rr (R249). -/
def execStdZ (q : BitVec 6) (r : Reg) (s : State) : Result State :=
  storeByte s (eaDisp s .Z q) (s.reg r) 1

/-! ## Loads from program memory -/

/-- LPM (R250). -/
def execLpmR0 (s : State) : Result State := loadProgram s 0 (zWord s).toNat

/-- LPM Rd,Z (R251). -/
def execLpm (d : Reg) (s : State) : Result State := loadProgram s d (zWord s).toNat

/-- LPM Rd,Z+ (R252): both bytes of Z are incremented on every device, RAMPZ is not. -/
def execLpmInc (d : Reg) (s : State) : Result State :=
  if isPtrReg .Z d then .refused (.unpredictableWord (firstWord (.lpmInc d)))
  else andThen (progByte s (zWord s).toNat) fun v =>
    .next (((s.setReg d v).setPair 30 (zWord s + 1)).advance 1)

/-- ELPM (R253). -/
def execElpmR0 (s : State) : Result State := loadProgram s 0 (rampzZ s)

/-- ELPM Rd,Z (R254). -/
def execElpm (d : Reg) (s : State) : Result State := loadProgram s d (rampzZ s)

/-- RAMPZ:Z after the increment of ELPM (R255), on every device, as `rampzZ` reads it (assumption log 39). -/
def rampzZSucc (s : State) : Nat := (rampzZ s + 1) % 2 ^ (16 + s.cfg.rampBits)

/-- ELPM Rd,Z+ (R255): the increment carries into RAMPZ. -/
def execElpmInc (d : Reg) (s : State) : Result State :=
  if isPtrReg .Z d then .refused (.unpredictableWord (firstWord (.elpmInc d)))
  else andThen (progByte s (rampzZ s)) fun v =>
    .next ((Ptr.setRamp .Z ((s.setReg d v).setPair 30 (BitVec.ofNat 16 (rampzZSucc s)))
      (BitVec.ofNat 8 (rampzZSucc s / 2 ^ 16))).advance 1)

/-! ## I/O space -/

/-- IN (R256). -/
def execIoIn (d : Reg) (A : BitVec 6) (s : State) : Result State :=
  .next (((ioRead s A).2.setReg d (ioRead s A).1).advance 1)

/-- OUT (R257). -/
def execIoOut (A : BitVec 6) (r : Reg) (s : State) : Result State := .next ((ioWrite s A (s.reg r)).advance 1)

/-! ## The stack -/

/-- PUSH (R258). -/
def execPush (r : Reg) (s : State) : Result State :=
  andThen (push8 s (s.reg r)) fun t => .next (t.advance 1)

/-- POP (R259). -/
def execPop (d : Reg) (s : State) : Result State :=
  andThen (pop8 s) fun r => .next ((r.2.setReg d r.1).advance 1)

/-! ## Stores to program memory -/

/-- SPM (R262). -/
def execSpm (s : State) : Result State := storeProgram .SPM (zWord s).toNat s

/-- ESPM (R263). -/
def execEspm (s : State) : Result State := storeProgram .ESPM (rampzZ s) s

end Sys2Proof.Machine
end

