-- ==== Sys2Proof/Machine/Fetch.lean ====
section
/-! DEFINITION. Fetching and decoding an instruction from program memory (spec/30 R100), and what happens between two instructions:
the interrupt test, the hold-off, the watchdog and a demanded reset (spec/60 R336, R342, R346, R350, spec/70 R362). -/

namespace Sys2Proof.Machine

/-- Steps (1) to (5) of R100: fetch the first word, find its row, check that the device implements it, fetch the second word,
read the operands. -/
def fetch (s : State) : Result Instr :=
  andThen (progWord s s.pc) fun w =>
  match decodeRow w with
  | none => .fault (.reservedInstruction w)
  | some row =>
    if s.cfg.implements (mnemonicOf (row.build w 0)) then
      if isTwoWord w then andThen (progWord s (s.pcPlus 1)) fun w2 => .next (row.build w w2)
      else .next (row.build w 0)
    else .fault (.unimplementedInstruction (mnemonicOf (row.build w 0)))

/-- The instruction is one of those after which R336 holds interrupts off whatever I was: SEI, BSET 7, RETI. -/
def holdsOff : Instr → Bool
  | .bset f => f == Flag.I
  | .sei => true
  | .reti => true
  | _ => false

/-- `holdoff` after instruction `i` took the machine from `s` to `t` (R336, R342). -/
def holdoffAfter (i : Instr) (s t : State) : Bool := holdsOff i || (!s.flag .I && t.flag .I)

/-- One more step has passed on the watchdog timer, where the device has one (R346). -/
def tick (s : State) : State :=
  { s with watchdog := if s.cfg.watchdogLimit.isSome then s.watchdog + 1 else s.watchdog }

/-- The state between instructions, after instruction `i` took the machine from `s` to `t`. -/
def afterInstruction (i : Instr) (s t : State) : State := tick { t with holdoff := holdoffAfter i s t }

/-- A reset is due: the device demands it, or the watchdog ran out (R346, R362). -/
def resetDue (s : State) : Bool :=
  s.resetDemanded ||
    (match s.cfg.watchdogLimit with
     | some limit => decide (limit ≤ s.watchdog)
     | none => false)

/-- The reset a device demands (R361, R362, D21): the machine restarts from the reset state. The parameters, program memory, the
lock bits and the count of device accesses stay (assumption log 17). -/
def deviceReset (s : State) : State :=
  { State.powerOn s.cfg s.prog with blbits := s.blbits, freeCount := s.freeCount }

/-- The lowest pending source among 1 to NVECT (R336, R338). -/
def lowestPending (s : State) : Option Nat :=
  (List.range' 1 s.cfg.nvect).find? fun n => s.pending.contains n

/-- The source whose interrupt is taken now, if any: I is set, no hold-off (a sleeping core has none, R350), one is pending
(R336). -/
def interruptToTake (s : State) : Option Nat :=
  if s.flag .I && (s.sleeping || !s.holdoff) then lowestPending s else none

/-- A state with the two words of an instruction placed where the next fetch reads them. -/
def placeWords (s : State) (w w2 : Word) : State :=
  { s with prog :=
    Memory.writeWord .prog (Memory.writeWord .prog s.prog s.pc.toNat w) (s.pcPlus 1).toNat w2 }

end Sys2Proof.Machine
end

