-- ==== Sys2Proof/Machine/Step.lean ====
section
/-! DEFINITION. One step of the machine (spec/60 R336, spec/30 R100), and the placing of an instruction where it is fetched. -/

namespace Sys2Proof.Machine

/-- One step: a demanded reset, else an interrupt that is to be taken, else nothing while SLEEP holds the core, else one
instruction. DESIGN CHOICE (assumption log 17): where a reset and an interrupt are due at the same boundary, R336, R338, R350 and
R362 give no order; the model takes the reset, and the requests are gone with it. -/
def step (s : State) : Host.Outcome State Fault Refusal :=
  if resetDue s then .next (deviceReset s)
  else
    match interruptToTake s with
    | some n => andThen (takeInterrupt n s) fun t => .next (tick t)
    | none =>
      if s.sleeping then .next (tick s)
      else andThen (fetch s) fun i => andThen (exec i s) fun t => .next (afterInstruction i s t)

/-- The state with an instruction, its bits numbered as spec/opcode_table.json numbers them, stored at the program counter. -/
def State.withFetchWord (s : State) (nbits w : Nat) : State :=
  placeWords s (tableWords nbits w).1 (tableWords nbits w).2

end Sys2Proof.Machine
end

