-- ==== Sys2Proof/Safety.lean ====
section
/-! DEFINITION. The terms claims are stated in: a legal configuration, the invariant of the machine, reading one byte, and what a
step leaves unchanged. -/

namespace Sys2Proof

/-- The constraints of spec/00 R5 between the parameters; that EICALL needs three bytes of PC is in `Config.implements`. -/
def Config.ok (cfg : Config) : Prop :=
  1 ≤ cfg.pcBits ∧ cfg.pcBits ≤ 22 ∧ cfg.flashWords ≤ 2 ^ cfg.pcBits ∧ cfg.rampBits ≤ 8 ∧
  (cfg.dataClass = .gt64K → 0 < cfg.rampBits) ∧
  (cfg.progGt64KB = true → (cfg.implements .ELPM = true ∨ cfg.implements .ESPM = true) →
    0 < cfg.rampBits ∧ cfg.ioRampz.isSome = true) ∧ cfg.resetPc.toNat < 2 ^ cfg.pcBits ∧
  (∀ v ∈ cfg.vectors, v.toNat < 2 ^ cfg.pcBits) ∧ cfg.watchdogLimit ≠ some 0

namespace Machine

/-- THE INVARIANT: the program counter, the RAMP registers and the stack pointer stay within the bits the device implements
(R25, R32, R33), the memories keep their canonical form and list only addresses that exist, the hold-off is set only while I is
set, and never in a sleeping core (R336, R342, R350). -/
structure Inv (s : State) : Prop where
  pc_range : s.pc.toNat < 2 ^ s.cfg.pcBits
  sp_range : s.cfg.spWidth = .bits8 → s.sp.toNat < 256
  rampx_range : s.rampx.toNat < 2 ^ s.cfg.rampBits
  rampy_range : s.rampy.toNat < 2 ^ s.cfg.rampBits
  rampz_range : s.rampz.toNat < 2 ^ s.cfg.rampBits
  rampd_range : s.rampd.toNat < 2 ^ s.cfg.rampBits
  sram_wf : Memory.wf .sram s.sram = true
  io_wf : Memory.wf .io s.io = true
  prog_wf : Memory.wf .prog s.prog = true
  pageBuffer_wf : Memory.wf .pageBuffer s.pageBuffer = true
  sram_range : ∀ cell ∈ s.sram, s.cfg.sramBase ≤ cell.1 ∧ cell.1 ≤ s.cfg.ramEnd
  io_range : ∀ cell ∈ s.io, cell.1 < 64
  prog_range : ∀ cell ∈ s.prog, cell.1 < 2 * s.cfg.flashWords
  holdoff_enabled : s.holdoff = true → s.flag .I = true
  sleeping_free : s.sleeping = true → s.holdoff = false

/-- One byte of the data space, as a load would read it; none where no byte exists (R63). -/
def dataByte (s : State) (a : Nat) : Option Byte :=
  match memRead s a with
  | .next r => some r.1
  | _ => none

/-- One byte of program memory (R68). -/
def programByte (s : State) (b : Nat) : Byte := Memory.read .prog s.prog b

/-- One byte of the page buffer. -/
def bufferByte (s : State) (b : Nat) : Byte := Memory.read .pageBuffer s.pageBuffer b

/-- One byte of SRAM. -/
def sramByte (s : State) (a : Nat) : Byte := Memory.read .sram s.sram a

/-- One byte of the I/O locations the core does not own. -/
def ioByte (s : State) (A : Nat) : Byte := Memory.read .io s.io A

/-- Every byte of every memory reads as before. -/
def SameMemory (s t : State) : Prop :=
  (∀ a, sramByte t a = sramByte s a) ∧ (∀ A, ioByte t A = ioByte s A) ∧
  (∀ b, programByte t b = programByte s b) ∧ (∀ b, bufferByte t b = bufferByte s b)

/-- Every byte of every memory reads as before, but for the SRAM bytes at the addresses listed. -/
def SameMemoryBut (addrs : List Nat) (s t : State) : Prop :=
  (∀ a, a ∉ addrs → sramByte t a = sramByte s a) ∧ (∀ A, ioByte t A = ioByte s A) ∧
  (∀ b, programByte t b = programByte s b) ∧ (∀ b, bufferByte t b = bufferByte s b)

/-- Every general register but those listed has its old value. -/
def SameRegsBut (regs : List Reg) (s t : State) : Prop := ∀ i, i ∉ regs → t.reg i = s.reg i

/-- Every flag of SREG but those listed has its old value. -/
def SameFlagsBut (flags : List Flag) (s t : State) : Prop := ∀ f, f ∉ flags → t.flag f = s.flag f

/-- The special registers other than SREG, SP and PC have their old values. -/
def SameSpecial (s t : State) : Prop :=
  t.rampx = s.rampx ∧ t.rampy = s.rampy ∧ t.rampz = s.rampz ∧ t.rampd = s.rampd ∧ t.eind = s.eind ∧
  t.spmcr = s.spmcr ∧ t.mcucr = s.mcucr ∧ t.blbits = s.blbits

/-- The parameters, the interrupt system's hidden state and the device's part are as before. -/
def SameHidden (s t : State) : Prop :=
  t.cfg = s.cfg ∧ t.holdoff = s.holdoff ∧ t.sleeping = s.sleeping ∧ t.devicePart = s.devicePart

/-- THE FRAME OF A REGISTER INSTRUCTION: nothing changed but the registers and flags listed and the program counter. -/
def OnlyChanged (regs : List Reg) (flags : List Flag) (s t : State) : Prop :=
  SameRegsBut regs s t ∧ SameFlagsBut flags s t ∧ t.sp = s.sp ∧ SameSpecial s t ∧ SameMemory s t ∧
  SameHidden s t ∧ t.freeCount = s.freeCount

/-- THE FRAME OF A STORE TO SRAM: nothing changed but the registers and the SRAM bytes listed and the program counter. -/
def OnlyStored (regs : List Reg) (addrs : List Nat) (s t : State) : Prop :=
  SameRegsBut regs s t ∧ t.sreg = s.sreg ∧ t.sp = s.sp ∧ SameSpecial s t ∧ SameMemoryBut addrs s t ∧
  SameHidden s t ∧ t.freeCount = s.freeCount

/-! ### The flag formulas of the manual, with the bars restored (R12 to R17) -/

/-- Carry from a bit position: `a•b + b•~r + ~r•a` (R13). -/
def carryFrom (a b r : Bool) : Bool := (a && b) || (b && !r) || (!r && a)

/-- Borrow from a bit position: `~a•b + b•r + r•~a` (R14). -/
def borrowFrom (a b r : Bool) : Bool := (!a && b) || (b && r) || (r && !a)

/-- Overflow of an addition: `a•b•~r + ~a•~b•r` (R13). -/
def addOverflow (a b r : Bool) : Bool := (a && b && !r) || (!a && !b && r)

/-- Overflow of a subtraction: `a•~b•~r + ~a•b•r` (R14). -/
def subOverflow (a b r : Bool) : Bool := (a && !b && !r) || (!a && b && r)

/-- The six flags after an addition of `a` and `b` with result `r`. -/
def AdditionFlags (a b r : Byte) (t : State) : Prop :=
  t.flag .H = carryFrom (a.getLsbD 3) (b.getLsbD 3) (r.getLsbD 3) ∧ t.flag .C = carryFrom (a.getLsbD 7) (b.getLsbD 7) (r.getLsbD 7) ∧
  t.flag .V = addOverflow (a.getLsbD 7) (b.getLsbD 7) (r.getLsbD 7) ∧ t.flag .N = r.getLsbD 7 ∧
  t.flag .Z = decide (r = 0) ∧ t.flag .S = (t.flag .N ^^ t.flag .V)

/-- The six flags after a subtraction of `b` from `a` with result `r`, Z being `z`. -/
def SubtractionFlags (a b r : Byte) (z : Bool) (t : State) : Prop :=
  t.flag .H = borrowFrom (a.getLsbD 3) (b.getLsbD 3) (r.getLsbD 3) ∧ t.flag .C = borrowFrom (a.getLsbD 7) (b.getLsbD 7) (r.getLsbD 7) ∧
  t.flag .V = subOverflow (a.getLsbD 7) (b.getLsbD 7) (r.getLsbD 7) ∧ t.flag .N = r.getLsbD 7 ∧
  t.flag .Z = z ∧ t.flag .S = (t.flag .N ^^ t.flag .V)

/-- The four flags after a logic instruction with result `r`: V cleared, S = N (R16). -/
def LogicFlags (r : Byte) (t : State) : Prop :=
  t.flag .V = false ∧ t.flag .N = r.getLsbD 7 ∧ t.flag .Z = decide (r = 0) ∧ t.flag .S = r.getLsbD 7

/-- The five flags after a right shift of `a` with result `r`: C the bit shifted out, V = N ⊕ C, S = N ⊕ V (R17). -/
def ShiftRightFlags (a r : Byte) (t : State) : Prop :=
  t.flag .C = a.getLsbD 0 ∧ t.flag .N = r.getLsbD 7 ∧ t.flag .Z = decide (r = 0) ∧
  t.flag .V = (r.getLsbD 7 ^^ a.getLsbD 0) ∧ t.flag .S = (t.flag .N ^^ t.flag .V)

/-- H, S, V, N, Z, C (R28). -/
def arithFlags : List Flag := [.H, .S, .V, .N, .Z, .C]

/-- S, V, N, Z, C (R28). -/
def wordFlags : List Flag := [.S, .V, .N, .Z, .C]

/-- S, V, N, Z (R28). -/
def logicFlags : List Flag := [.S, .V, .N, .Z]

/-! ### Loads and stores by what lies at the address (R62 to R64) -/

/-- WHAT A LOAD DOES: `out` is the outcome, in state `s`, of an instruction that loads `d` from address `a` and leaves the
program counter `n` words on. An I/O location is read as IN reads it, and nothing changes but what that read changes. -/
def LoadSpec (s : State) (d : Reg) (a n : Nat) (out : Result State) : Prop :=
  match locate s.cfg a with
  | .reg i => ∃ t, out = .next t ∧ t.reg d = s.reg i ∧ t.pc = s.pcPlus n ∧ OnlyChanged [d] [] s t
  | .sram => ∃ t, out = .next t ∧ t.reg d = sramByte s a ∧ t.pc = s.pcPlus n ∧ OnlyChanged [d] [] s t
  | .io A => ∃ t, out = .next t ∧ t.reg d = (ioRead s A).1 ∧ t.pc = s.pcPlus n ∧
      OnlyChanged [d] [] (ioRead s A).2 t
  | .unmapped => out = .fault (.unmappedData a)

/-- WHAT A STORE DOES: `out` is the outcome, in state `s`, of an instruction that stores `v` at address `a` and leaves the program
counter `n` words on. An I/O location is written as OUT writes it. -/
def StoreSpec (s : State) (a : Nat) (v : Byte) (n : Nat) (out : Result State) : Prop :=
  match locate s.cfg a with
  | .reg i => ∃ t, out = .next t ∧ t.reg i = v ∧ t.pc = s.pcPlus n ∧ OnlyChanged [i] [] s t
  | .sram => ∃ t, out = .next t ∧ sramByte t a = v ∧ t.pc = s.pcPlus n ∧ OnlyStored [] [a] s t
  | .io A => out = .next ((ioWrite s A v).setPc (s.pcPlus n))
  | .unmapped => out = .fault (.unmappedData a)

/-- The registers of a pointer that its updates write: the low one only on devices with no more than 256 bytes of data space
(R75). -/
def ptrRegs (cfg : Config) (p : Ptr) : List Reg :=
  match cfg.dataClass with
  | .le256 => [p.lo]
  | _ => [p.lo, p.lo + 1]

/-- The special registers but the pointer's own RAMP register, which only a device with more than 64K bytes of data space
updates (R75), have their old values. -/
def SameSpecialButRamp (p : Ptr) (s t : State) : Prop :=
  ((p = .X ∧ s.cfg.dataClass = .gt64K) ∨ t.rampx = s.rampx) ∧
  ((p = .Y ∧ s.cfg.dataClass = .gt64K) ∨ t.rampy = s.rampy) ∧
  ((p = .Z ∧ s.cfg.dataClass = .gt64K) ∨ t.rampz = s.rampz) ∧ t.rampd = s.rampd ∧ t.eind = s.eind ∧
  t.spmcr = s.spmcr ∧ t.mcucr = s.mcucr ∧ t.blbits = s.blbits

/-- WHAT A LOAD THAT UPDATES ITS POINTER DOES, past its two checks: address `a`, the pointer left at `v`, and nothing else changed
but what the read of the byte changes. -/
def PtrLoadSpec (s : State) (p : Ptr) (d : Reg) (a v : Nat) (out : Result State) : Prop :=
  match memRead s a with
  | .next r => ∃ t, out = .next t ∧ t.reg d = r.1 ∧ ptrGet t p = v ∧ t.pc = s.pcPlus 1 ∧
      SameRegsBut (d :: ptrRegs s.cfg p) s t ∧ t.sreg = s.sreg ∧ t.sp = s.sp ∧ SameSpecialButRamp p s t ∧
      SameMemory s t ∧ SameHidden r.2 t ∧ t.freeCount = r.2.freeCount
  | _ => out = .fault (.unmappedData a)

/-- WHAT A STORE THAT UPDATES ITS POINTER DOES, past its two checks: address `a`, the pointer left at `v`. -/
def PtrStoreSpec (s : State) (p : Ptr) (b : Byte) (a v : Nat) (out : Result State) : Prop :=
  match locate s.cfg a with
  | .reg i => ∃ t, out = .next t ∧ t.reg i = b ∧ ptrGet t p = v ∧ t.pc = s.pcPlus 1 ∧
      SameRegsBut (i :: ptrRegs s.cfg p) s t ∧ t.sreg = s.sreg ∧ t.sp = s.sp ∧ SameSpecialButRamp p s t ∧
      SameMemory s t ∧ SameHidden s t ∧ t.freeCount = s.freeCount
  | .sram => ∃ t, out = .next t ∧ sramByte t a = b ∧ ptrGet t p = v ∧ t.pc = s.pcPlus 1 ∧
      SameRegsBut (ptrRegs s.cfg p) s t ∧ t.sreg = s.sreg ∧ t.sp = s.sp ∧ SameSpecialButRamp p s t ∧
      SameMemoryBut [a] s t ∧ SameHidden s t ∧ t.freeCount = s.freeCount
  | .io A => ∃ t, out = .next t ∧ t = (ptrSet (ioWrite s A b) p v).setPc (s.pcPlus 1) ∧ ptrGet t p = v
  | .unmapped => out = .fault (.unmappedData a)

/-! ### The stack (R70 to R73) -/

/-- The address of the `i`-th byte the next pushes store, from 0: SP, then downwards within SPBITS. -/
def pushAddress (s : State) (i : Nat) : Nat := (wrapSp s.cfg (s.sp - BitVec.ofNat 16 i)).toNat

/-- The address of the `i`-th byte the next pops read, from 0: SP + 1, then upwards within SPBITS. -/
def pullAddress (s : State) (i : Nat) : Nat := (wrapSp s.cfg (s.sp + BitVec.ofNat 16 (i + 1))).toNat

/-- SP holds SPBITS bits. -/
def SpInRange (s : State) : Prop := wrapSp s.cfg s.sp = s.sp

/-- A stack byte can lie at an address: it exists and is not SP's own (R64, R87). -/
def StackByteOk (s : State) (a : Nat) : Prop := locate s.cfg a ≠ .unmapped ∧ stackClash s.cfg a = false

/-- The `i`-th byte of a return address, least significant first (R72). -/
def returnByte (t : PcWord) (i : Nat) : Byte := BitVec.ofNat 8 (t.toNat / 256 ^ i)

/-- The state after those bytes of the return address `r` that fall in the I/O space have been written there, in their order, as
OUT writes them. -/
def stackIoWrites (s : State) (r : PcWord) : State :=
  (List.range s.cfg.pcBytes).foldl (fun u i =>
    match locate s.cfg (pushAddress s i) with
    | .io A => ioWrite u A (returnByte r i)
    | _ => u) s

/-- WHAT PUSHING A RETURN ADDRESS LEAVES: the PCBYTES bytes of `r` from SP down, SP lower by PCBYTES, and nothing else changed but
the program counter. Bytes that fall in the register file land in registers; SREG, the special registers, the I/O locations and
the device are as the bytes that fall in the I/O space leave them. -/
def PushedPc (s t : State) (r : PcWord) : Prop :=
  t.sp = wrapSp s.cfg (s.sp - BitVec.ofNat 16 s.cfg.pcBytes) ∧
  (∀ i, i < s.cfg.pcBytes → match locate s.cfg (pushAddress s i) with
    | .reg j => t.reg j = returnByte r i
    | .sram => sramByte t (pushAddress s i) = returnByte r i
    | _ => True) ∧
  (∀ a, (∀ i, i < s.cfg.pcBytes → a ≠ pushAddress s i) → sramByte t a = sramByte s a) ∧
  (∀ j, (∀ i, i < s.cfg.pcBytes → locate s.cfg (pushAddress s i) ≠ .reg j) → t.reg j = s.reg j) ∧
  (∀ b, programByte t b = programByte s b) ∧ (∀ b, bufferByte t b = bufferByte s b) ∧
  t.sreg = (stackIoWrites s r).sreg ∧ SameSpecial (stackIoWrites s r) t ∧
  (∀ A, ioByte t A = ioByte (stackIoWrites s r) A) ∧ SameHidden (stackIoWrites s r) t ∧
  t.freeCount = (stackIoWrites s r).freeCount

/-- The state after the next PCBYTES pops have read their bytes, in their order; SP itself is not moved. -/
def stackReads (s : State) : State :=
  (List.range s.cfg.pcBytes).foldl (fun u i =>
    match memRead u (pullAddress s i) with
    | .next r => r.2
    | _ => u) s

/-- WHAT POPPING A RETURN ADDRESS LEAVES: SP higher by PCBYTES and nothing else changed but SREG, the program counter and what
reading the bytes changes in the device. -/
def PoppedPc (s t : State) : Prop :=
  t.sp = wrapSp s.cfg (s.sp + BitVec.ofNat 16 s.cfg.pcBytes) ∧ SameRegsBut [] s t ∧ SameSpecial s t ∧
  SameMemory s t ∧ SameHidden (stackReads s) t ∧ t.freeCount = (stackReads s).freeCount

/-- The return address the next pops read, most significant byte first, where all its bytes can be read. -/
def stackedPc (s : State) : Option Nat :=
  match dataByte s (pullAddress s 0), dataByte s (pullAddress s 1), dataByte s (pullAddress s 2) with
  | some x, some y, z =>
    if s.cfg.pcBytes = 3 then
      match z with
      | some w => some (x.toNat * 65536 + y.toNat * 256 + w.toNat)
      | none => none
    else some (x.toNat * 256 + y.toNat)
  | _, _, _ => none

/-- An address does not belong to one of the device's own I/O locations. -/
def NotDevice (s : State) (a : Nat) : Prop := ∀ A, locate s.cfg a = .io A → ioOwner s.cfg A ≠ .device

/-- WHAT A SKIP DOES WHERE THE NEXT WORD LIES BEYOND PROGRAM MEMORY (R99, R201): it cannot measure the next instruction if it
skips, and goes on if it does not; `u` is the state after the condition was read. -/
def SkipAtEnd (s u : State) (skips : Bool) (out : Result State) : Prop :=
  if skips then out = .fault (.fetchOutOfRange (s.pcPlus 1))
  else ∃ t, out = .next t ∧ OnlyChanged [] [] u t ∧ t.pc = s.pcPlus 1

/-! ### Instructions that store -/

/-- The flags an instruction's page lists as written (R28). -/
def flagsWritten : Instr → List Flag
  | .add _ _ | .adc _ _ | .sub _ _ | .subi _ _ | .sbc _ _ | .sbci _ _ | .cp _ _ | .cpc _ _ | .cpi _ _ | .neg _
  | .lsl _ | .rol _ => [.H, .S, .V, .N, .Z, .C]
  | .adiw _ _ | .sbiw _ _ | .com _ | .lsr _ | .ror _ | .asr _ => [.S, .V, .N, .Z, .C]
  | .land _ _ | .andi _ _ | .lor _ _ | .ori _ _ | .eor _ _ | .sbr _ _ | .cbr _ _ | .tst _ | .clr _ | .inc _
  | .dec _ => [.S, .V, .N, .Z]
  | .mul _ _ | .muls _ _ | .mulsu _ _ | .fmul _ _ | .fmuls _ _ | .fmulsu _ _ => [.Z, .C]
  | .bst _ _ => [.T]
  | .bset f | .bclr f => [f]
  | .sec | .clc => [.C]
  | .sez | .clz => [.Z]
  | .sen | .cln => [.N]
  | .sev | .clv => [.V]
  | .ses | .cls => [.S]
  | .seh | .clh => [.H]
  | .setT | .clt => [.T]
  | .sei | .cli | .reti => [.I]
  | _ => []

/-- The instruction can store into the data space or the I/O space, and so into SREG where its address falls there (R28): the
stores, OUT, PUSH, SBI, CBI, and the calls, which push. -/
def storesData : Instr → Bool
  | .sts _ _ | .stX _ | .stXInc _ | .stXDec _ | .stY _ | .stYInc _ | .stYDec _ | .stdY _ _ | .stZ _ | .stZInc _
  | .stZDec _ | .stdZ _ _ | .ioOut _ _ | .push _ | .sbi _ _ | .cbi _ _ | .rcall _ | .icall | .eicall
  | .call _ => true
  | _ => false

/-- SPM or ESPM, the only instructions that can write program memory (R85). -/
def storesProgram : Instr → Bool
  | .spm | .espm => true
  | _ => false

end Machine

end Sys2Proof
end

