-- ==== Sys2Proof/Certificates/Slice0/Obligations.lean ====
section
/-! DEFINITION. The statements for the provers. The rules R<n> are those of spec/. -/

open Sys2Proof Sys2Proof.Machine

/-! ## Encoding -/

/-- Words written out from the opcode rows of every family decode to the instructions they stand for (R92 to R97). -/
def Obligations.written_words_decode : Prop :=
  decodeWords 0b0000110000010010#16 0 = some (.add 1 2) ∧
  decodeWords 0b1001011011111111#16 0 = some (.adiw 30 63) ∧
  decodeWords 0b0101000101100001#16 0 = some (.subi 22 0x11) ∧
  decodeWords 0b0000001111111110#16 0 = some (.fmulsu 23 22) ∧
  decodeWords 0b1001010000101101#16 0x1000 = some (.jmp 0x051000) ∧
  decodeWords 0b1111001111101001#16 0 = some (.brbs 1 (-3)) ∧
  decodeWords 0b1001101111100001#16 0 = some (.sbis 0x1C 1) ∧
  decodeWords 0b1010110001011111#16 0 = some (.lddY 5 63) ∧
  decodeWords 0b1001000000100000#16 0xFF00 = some (.lds 2 0xFF00) ∧
  decodeWords 0b1011001110010110#16 0 = some (.ioIn 25 0x16) ∧
  decodeWords 0b1001000111100101#16 0 = some (.lpmInc 30) ∧
  decodeWords 0b1111100000000100#16 0 = some (.bld 0 4) ∧
  decodeWords 0b1001010001101000#16 0 = some (.bset 6) ∧
  decodeWords 0b1001010110001000#16 0 = some .sleep

/-- No word matches two of the 91 primary rows (R97). -/
def Obligations.rows_pairwise_disjoint : Prop :=
  opcodeRows.length = 91 ∧
  opcodeRows.Pairwise fun x y => ∀ w : Word, ¬ (x.accepts w = true ∧ y.accepts w = true)

/-- Decoding the bytes of any well-formed instruction, whatever follows them, gives back the instruction (an alias as its
primary, R96) and the bytes that follow. The order of the letters of a scattered field is the spec's decision D17
(assumption log 34). -/
def Obligations.decode_of_encode : Prop :=
  ∀ (i : Instr) (rest : List Byte), i.wellFormed = true →
    decodeBytes (encodeBytes i ++ rest) = .instr (expand i) rest

/-- Whatever bytes decode, the instruction read is a well-formed primary whose encoding is the bytes consumed. -/
def Obligations.encode_of_decode : Prop :=
  ∀ (bytes rest : List Byte) (i : Instr), decodeBytes bytes = .instr i rest →
    i.wellFormed = true ∧ expand i = i ∧ encodeBytes i ++ rest = bytes

/-- The words that match no row are exactly those of the patterns of R101, and a step that fetches one ends in the fault
reservedInstruction. That such a word faults is the spec's decision D19 (assumption log 32). -/
def Obligations.unassigned_words : Prop :=
  (∀ w : Word, decodeRow w = none ↔
    ((w &&& 0xFF00 = 0x0000 ∧ w ≠ 0x0000) ∨
     (w &&& 0xFE0F = 0x9003 ∨ w &&& 0xFE0F = 0x9008 ∨ w &&& 0xFE0F = 0x900B) ∨
     (w &&& 0xFE0F = 0x9203 ∨ w &&& 0xFE0F = 0x9204 ∨ w &&& 0xFE0F = 0x9205 ∨ w &&& 0xFE0F = 0x9206 ∨
      w &&& 0xFE0F = 0x9207 ∨ w &&& 0xFE0F = 0x9208 ∨ w &&& 0xFE0F = 0x920B) ∨
     w &&& 0xFE0F = 0x9404 ∨ w &&& 0xFE0F = 0x940B ∨
     w ∈ [0x9528#16, 0x9538#16, 0x9548#16, 0x9558#16, 0x9568#16, 0x9578#16, 0x9598#16, 0x95B8#16] ∨
     (w &&& 0xFF0F = 0x9409 ∧ w ≠ 0x9409 ∧ w ≠ 0x9419) ∨
     (w &&& 0xFF0F = 0x9509 ∧ w ≠ 0x9509 ∧ w ≠ 0x9519) ∨
     w &&& 0xF808 = 0xF808)) ∧
  (∀ (s : State) (w : Word), resetDue s = false → interruptToTake s = none → s.sleeping = false →
    s.pc.toNat < s.cfg.flashWords → programByte s (2 * s.pc.toNat + 1) ++ programByte s (2 * s.pc.toNat) = w →
    decodeRow w = none → step s = .fault (.reservedInstruction w))

/-- `IsTwoWord`: a first word that decodes heads a two-word instruction exactly when it matches one of the four masks of R91, and
a word that matches no row counts as one word. -/
def Obligations.two_word_test : Prop :=
  ∀ w : Word,
    (∀ w2 i, decodeWords w w2 = some i → (isTwoWord w = true ↔ i.words = 2)) ∧
    (decodeRow w = none → isTwoWord w = false) ∧
    (isTwoWord w = true ↔ (w &&& 0xFE0F = 0x9000 ∨ w &&& 0xFE0F = 0x9200 ∨ w &&& 0xFE0E = 0x940C ∨
      w &&& 0xFE0E = 0x940E))

/-- An alias has, in every state whose RAMP registers hold RAMPBITS bits, the effect of the primary instruction whose words it
shares (R96). -/
def Obligations.alias_has_primary_effect : Prop :=
  ∀ (s : State) (i : Instr), s.rampy.toNat < 2 ^ s.cfg.rampBits → s.rampz.toNat < 2 ^ s.cfg.rampBits →
    exec i s = exec (expand i) s

/-! ## Arithmetic -/

/-- ADD and ADC complete with the sum, the flags of R13's formulas, and nothing else changed (R121, R122). -/
def Obligations.addition_results : Prop :=
  ∀ (s : State) (d r : Reg),
    (∃ t, exec (.add d r) s = .next t ∧
      (t.reg d).toNat = ((s.reg d).toNat + (s.reg r).toNat) % 256 ∧
      AdditionFlags (s.reg d) (s.reg r) (t.reg d) t ∧ t.pc = s.pcPlus 1 ∧ OnlyChanged [d] arithFlags s t) ∧
    (∃ t, exec (.adc d r) s = .next t ∧
      (t.reg d).toNat = ((s.reg d).toNat + (s.reg r).toNat + (s.flag .C).toNat) % 256 ∧
      AdditionFlags (s.reg d) (s.reg r) (t.reg d) t ∧ t.pc = s.pcPlus 1 ∧ OnlyChanged [d] arithFlags s t)

/-- LSL and ROL complete with the register doubled, the old carry entering at bit 0 for ROL, bit 7 leaving to C, H the old bit 3
(R281, R283). -/
def Obligations.shift_left_results : Prop :=
  ∀ (s : State) (d : Reg),
    (∃ t, exec (.lsl d) s = .next t ∧ (t.reg d).toNat = 2 * (s.reg d).toNat % 256 ∧
      t.flag .C = (s.reg d).getLsbD 7 ∧ t.flag .H = (s.reg d).getLsbD 3 ∧ t.flag .N = (t.reg d).getLsbD 7 ∧
      t.flag .Z = decide (t.reg d = 0) ∧ t.flag .V = (t.flag .N ^^ t.flag .C) ∧
      t.flag .S = (t.flag .N ^^ t.flag .V) ∧ t.pc = s.pcPlus 1 ∧ OnlyChanged [d] arithFlags s t) ∧
    (∃ t, exec (.rol d) s = .next t ∧ (t.reg d).toNat = (2 * (s.reg d).toNat + (s.flag .C).toNat) % 256 ∧
      t.flag .C = (s.reg d).getLsbD 7 ∧ t.flag .H = (s.reg d).getLsbD 3 ∧ t.flag .N = (t.reg d).getLsbD 7 ∧
      t.flag .Z = decide (t.reg d = 0) ∧ t.flag .V = (t.flag .N ^^ t.flag .C) ∧
      t.flag .S = (t.flag .N ^^ t.flag .V) ∧ t.pc = s.pcPlus 1 ∧ OnlyChanged [d] arithFlags s t)

/-- SUB and SUBI complete with the difference, the flags of R14's formulas, Z from the result (R124, R125). -/
def Obligations.subtraction_results : Prop :=
  ∀ (s : State) (d r : Reg) (K : Byte),
    (∃ t, exec (.sub d r) s = .next t ∧
      ((t.reg d).toNat : Int) = ((s.reg d).toNat - (s.reg r).toNat : Int) % 256 ∧
      SubtractionFlags (s.reg d) (s.reg r) (t.reg d) (decide (t.reg d = 0)) t ∧ t.pc = s.pcPlus 1 ∧
      OnlyChanged [d] arithFlags s t) ∧
    (∃ t, exec (.subi d K) s = .next t ∧
      ((t.reg d).toNat : Int) = ((s.reg d).toNat - K.toNat : Int) % 256 ∧
      SubtractionFlags (s.reg d) K (t.reg d) (decide (t.reg d = 0)) t ∧ t.pc = s.pcPlus 1 ∧
      OnlyChanged [d] arithFlags s t)

/-- SBC and SBCI complete with the difference less the old carry; Z stays set only where the result is zero and Z was set
(R126, R127, R369). -/
def Obligations.subtraction_with_carry_results : Prop :=
  ∀ (s : State) (d r : Reg) (K : Byte),
    (∃ t, exec (.sbc d r) s = .next t ∧
      ((t.reg d).toNat : Int) = ((s.reg d).toNat - (s.reg r).toNat - (s.flag .C).toNat : Int) % 256 ∧
      SubtractionFlags (s.reg d) (s.reg r) (t.reg d) (decide (t.reg d = 0) && s.flag .Z) t ∧ t.pc = s.pcPlus 1 ∧
      OnlyChanged [d] arithFlags s t) ∧
    (∃ t, exec (.sbci d K) s = .next t ∧
      ((t.reg d).toNat : Int) = ((s.reg d).toNat - K.toNat - (s.flag .C).toNat : Int) % 256 ∧
      SubtractionFlags (s.reg d) K (t.reg d) (decide (t.reg d = 0) && s.flag .Z) t ∧ t.pc = s.pcPlus 1 ∧
      OnlyChanged [d] arithFlags s t)

/-- CP, CPC and CPI complete, change no register, and leave exactly the SREG that SUB, SBC and SUBI leave (R172 to R174). -/
def Obligations.compare_results : Prop :=
  ∀ (s : State) (d r : Reg) (K : Byte),
    (∃ t u, exec (.cp d r) s = .next t ∧ exec (.sub d r) s = .next u ∧ t.sreg = u.sreg ∧
      t.pc = s.pcPlus 1 ∧ OnlyChanged [] arithFlags s t) ∧
    (∃ t u, exec (.cpc d r) s = .next t ∧ exec (.sbc d r) s = .next u ∧ t.sreg = u.sreg ∧
      t.pc = s.pcPlus 1 ∧ OnlyChanged [] arithFlags s t) ∧
    (∃ t u, exec (.cpi d K) s = .next t ∧ exec (.subi d K) s = .next u ∧ t.sreg = u.sreg ∧
      t.pc = s.pcPlus 1 ∧ OnlyChanged [] arithFlags s t)

/-- ADIW and SBIW complete with the 16-bit sum and difference of the pair, C and V as the prose of R123 and R128 gives them, H
kept. -/
def Obligations.word_immediate_results : Prop :=
  ∀ (s : State) (d : Reg) (K : BitVec 6),
    (∃ t, exec (.adiw d K) s = .next t ∧ (t.pair d).toNat = ((s.pair d).toNat + K.toNat) % 65536 ∧
      t.flag .C = decide (65535 < (s.pair d).toNat + K.toNat) ∧
      t.flag .V = decide ((s.pair d).toNat ≤ 0x7FFF ∧ 0x8000 ≤ (s.pair d).toNat + K.toNat) ∧
      t.flag .N = (t.pair d).getLsbD 15 ∧ t.flag .Z = decide (t.pair d = 0) ∧
      t.flag .S = (t.flag .N ^^ t.flag .V) ∧ t.pc = s.pcPlus 1 ∧ OnlyChanged [d, d + 1] wordFlags s t) ∧
    (∃ t, exec (.sbiw d K) s = .next t ∧
      ((t.pair d).toNat : Int) = ((s.pair d).toNat - K.toNat : Int) % 65536 ∧
      t.flag .C = decide ((s.pair d).toNat < K.toNat) ∧
      t.flag .V = decide (0x8000 ≤ (s.pair d).toNat ∧ (s.pair d).toNat ≤ 0x7FFF + K.toNat) ∧
      t.flag .N = (t.pair d).getLsbD 15 ∧ t.flag .Z = decide (t.pair d = 0) ∧
      t.flag .S = (t.flag .N ^^ t.flag .V) ∧ t.pc = s.pcPlus 1 ∧ OnlyChanged [d, d + 1] wordFlags s t)

/-- AND, ANDI, OR, ORI, EOR, SBR and CBR complete with their bitwise result and the flags of R16 (R129 to R133, R136, R137). -/
def Obligations.logic_results : Prop :=
  ∀ (s : State) (d r : Reg) (K : Byte),
    (∃ t, exec (.land d r) s = .next t ∧ (∀ n, (t.reg d).getLsbD n = ((s.reg d).getLsbD n && (s.reg r).getLsbD n)) ∧
      LogicFlags (t.reg d) t ∧ t.pc = s.pcPlus 1 ∧ OnlyChanged [d] logicFlags s t) ∧
    (∃ t, exec (.andi d K) s = .next t ∧ (∀ n, (t.reg d).getLsbD n = ((s.reg d).getLsbD n && K.getLsbD n)) ∧
      LogicFlags (t.reg d) t ∧ t.pc = s.pcPlus 1 ∧ OnlyChanged [d] logicFlags s t) ∧
    (∃ t, exec (.lor d r) s = .next t ∧ (∀ n, (t.reg d).getLsbD n = ((s.reg d).getLsbD n || (s.reg r).getLsbD n)) ∧
      LogicFlags (t.reg d) t ∧ t.pc = s.pcPlus 1 ∧ OnlyChanged [d] logicFlags s t) ∧
    (∃ t, exec (.ori d K) s = .next t ∧ (∀ n, (t.reg d).getLsbD n = ((s.reg d).getLsbD n || K.getLsbD n)) ∧
      LogicFlags (t.reg d) t ∧ t.pc = s.pcPlus 1 ∧ OnlyChanged [d] logicFlags s t) ∧
    (∃ t, exec (.eor d r) s = .next t ∧ (∀ n, (t.reg d).getLsbD n = ((s.reg d).getLsbD n ^^ (s.reg r).getLsbD n)) ∧
      LogicFlags (t.reg d) t ∧ t.pc = s.pcPlus 1 ∧ OnlyChanged [d] logicFlags s t) ∧
    (∃ t, exec (.sbr d K) s = .next t ∧ (∀ n, (t.reg d).getLsbD n = ((s.reg d).getLsbD n || K.getLsbD n)) ∧
      LogicFlags (t.reg d) t ∧ t.pc = s.pcPlus 1 ∧ OnlyChanged [d] logicFlags s t) ∧
    (∃ t, exec (.cbr d K) s = .next t ∧ (∀ n, (t.reg d).getLsbD n = ((s.reg d).getLsbD n && !K.getLsbD n)) ∧
      LogicFlags (t.reg d) t ∧ t.pc = s.pcPlus 1 ∧ OnlyChanged [d] logicFlags s t)

/-- TST keeps the register and sets the flags from it, CLR leaves zero with S, V, N cleared and Z set, SER leaves $FF and no flag
changed (R140 to R142). -/
def Obligations.tst_clr_ser_results : Prop :=
  ∀ (s : State) (d : Reg),
    (∃ t, exec (.tst d) s = .next t ∧ LogicFlags (s.reg d) t ∧ t.pc = s.pcPlus 1 ∧ OnlyChanged [] logicFlags s t) ∧
    (∃ t, exec (.clr d) s = .next t ∧ t.reg d = 0 ∧ t.flag .S = false ∧ t.flag .V = false ∧ t.flag .N = false ∧
      t.flag .Z = true ∧ t.pc = s.pcPlus 1 ∧ OnlyChanged [d] logicFlags s t) ∧
    (∃ t, exec (.ser d) s = .next t ∧ t.reg d = 0xFF ∧ t.pc = s.pcPlus 1 ∧ OnlyChanged [d] [] s t)

/-- COM and NEG complete: $FF less the register with C set and V cleared; zero less the register with the flags of a subtraction
from zero (R134, R135). -/
def Obligations.complement_results : Prop :=
  ∀ (s : State) (d : Reg),
    (∃ t, exec (.com d) s = .next t ∧ (t.reg d).toNat = 255 - (s.reg d).toNat ∧ LogicFlags (t.reg d) t ∧
      t.flag .C = true ∧ t.pc = s.pcPlus 1 ∧ OnlyChanged [d] wordFlags s t) ∧
    (∃ t, exec (.neg d) s = .next t ∧ (t.reg d).toNat = (256 - (s.reg d).toNat) % 256 ∧
      SubtractionFlags 0 (s.reg d) (t.reg d) (decide (t.reg d = 0)) t ∧
      t.flag .V = decide (t.reg d = 0x80) ∧ t.flag .C = decide (t.reg d ≠ 0) ∧ t.pc = s.pcPlus 1 ∧
      OnlyChanged [d] arithFlags s t)

/-- INC and DEC complete: V exactly where the register was $7F, respectively $80; C and H kept (R138, R139). -/
def Obligations.increment_results : Prop :=
  ∀ (s : State) (d : Reg),
    (∃ t, exec (.inc d) s = .next t ∧ (t.reg d).toNat = ((s.reg d).toNat + 1) % 256 ∧
      t.flag .V = decide (s.reg d = 0x7F) ∧ t.flag .N = (t.reg d).getLsbD 7 ∧ t.flag .Z = decide (t.reg d = 0) ∧
      t.flag .S = (t.flag .N ^^ t.flag .V) ∧ t.pc = s.pcPlus 1 ∧ OnlyChanged [d] logicFlags s t) ∧
    (∃ t, exec (.dec d) s = .next t ∧ (t.reg d).toNat = ((s.reg d).toNat + 255) % 256 ∧
      t.flag .V = decide (s.reg d = 0x80) ∧ t.flag .N = (t.reg d).getLsbD 7 ∧ t.flag .Z = decide (t.reg d = 0) ∧
      t.flag .S = (t.flag .N ^^ t.flag .V) ∧ t.pc = s.pcPlus 1 ∧ OnlyChanged [d] logicFlags s t)

/-- MUL, MULS and MULSU complete with the exact product in R1:R0, read as unsigned, signed and signed; C is its bit 15, Z tells
whether it is zero (R143 to R145). -/
def Obligations.multiply_results : Prop :=
  ∀ (s : State) (d r : Reg),
    (∃ t, exec (.mul d r) s = .next t ∧ (t.pair 0).toNat = (s.reg d).toNat * (s.reg r).toNat ∧
      t.flag .C = (t.pair 0).getLsbD 15 ∧ t.flag .Z = decide ((s.reg d).toNat * (s.reg r).toNat = 0) ∧
      t.pc = s.pcPlus 1 ∧ OnlyChanged [0, 1] [.Z, .C] s t) ∧
    (∃ t, exec (.muls d r) s = .next t ∧ (t.pair 0).toInt = (s.reg d).toInt * (s.reg r).toInt ∧
      t.flag .C = decide ((s.reg d).toInt * (s.reg r).toInt < 0) ∧
      t.flag .Z = decide ((s.reg d).toInt * (s.reg r).toInt = 0) ∧
      t.pc = s.pcPlus 1 ∧ OnlyChanged [0, 1] [.Z, .C] s t) ∧
    (∃ t, exec (.mulsu d r) s = .next t ∧ (t.pair 0).toInt = (s.reg d).toInt * (s.reg r).toNat ∧
      t.flag .C = decide ((s.reg d).toInt * (s.reg r).toNat < 0) ∧
      t.flag .Z = decide ((s.reg d).toInt * (s.reg r).toNat = 0) ∧
      t.pc = s.pcPlus 1 ∧ OnlyChanged [0, 1] [.Z, .C] s t)

/-- FMUL, FMULS and FMULSU complete with twice the product, modulo 2^16, in R1:R0; C is bit 15 of the product before the shift, Z
tells whether the product is zero (R146 to R148). -/
def Obligations.fractional_multiply_results : Prop :=
  ∀ (s : State) (d r : Reg),
    (∃ t, exec (.fmul d r) s = .next t ∧
      (t.pair 0).toNat = 2 * ((s.reg d).toNat * (s.reg r).toNat) % 65536 ∧
      t.flag .C = decide (0x8000 ≤ (s.reg d).toNat * (s.reg r).toNat) ∧
      t.flag .Z = decide ((s.reg d).toNat * (s.reg r).toNat = 0) ∧
      t.pc = s.pcPlus 1 ∧ OnlyChanged [0, 1] [.Z, .C] s t) ∧
    (∃ t, exec (.fmuls d r) s = .next t ∧
      ((t.pair 0).toNat : Int) = 2 * ((s.reg d).toInt * (s.reg r).toInt) % 65536 ∧
      t.flag .C = decide ((s.reg d).toInt * (s.reg r).toInt < 0) ∧
      t.flag .Z = decide ((s.reg d).toInt * (s.reg r).toInt = 0) ∧
      t.pc = s.pcPlus 1 ∧ OnlyChanged [0, 1] [.Z, .C] s t) ∧
    (∃ t, exec (.fmulsu d r) s = .next t ∧
      ((t.pair 0).toNat : Int) = 2 * ((s.reg d).toInt * (s.reg r).toNat) % 65536 ∧
      t.flag .C = decide ((s.reg d).toInt * (s.reg r).toNat < 0) ∧
      t.flag .Z = decide ((s.reg d).toInt * (s.reg r).toNat = 0) ∧
      t.pc = s.pcPlus 1 ∧ OnlyChanged [0, 1] [.Z, .C] s t)

/-- LSR, ROR, ASR and SWAP complete: halved as unsigned, halved with the old carry at bit 7, halved as signed toward minus infinity,
nibbles exchanged; the flags of R17, H kept, none for SWAP (R282, R284 to R286). -/
def Obligations.shift_right_and_swap_results : Prop :=
  ∀ (s : State) (d : Reg),
    (∃ t, exec (.lsr d) s = .next t ∧ (t.reg d).toNat = (s.reg d).toNat / 2 ∧
      ShiftRightFlags (s.reg d) (t.reg d) t ∧ t.pc = s.pcPlus 1 ∧ OnlyChanged [d] wordFlags s t) ∧
    (∃ t, exec (.ror d) s = .next t ∧ (t.reg d).toNat = 128 * (s.flag .C).toNat + (s.reg d).toNat / 2 ∧
      ShiftRightFlags (s.reg d) (t.reg d) t ∧ t.pc = s.pcPlus 1 ∧ OnlyChanged [d] wordFlags s t) ∧
    (∃ t, exec (.asr d) s = .next t ∧ (t.reg d).toInt = (s.reg d).toInt / 2 ∧
      ShiftRightFlags (s.reg d) (t.reg d) t ∧ t.pc = s.pcPlus 1 ∧ OnlyChanged [d] wordFlags s t) ∧
    (∃ t, exec (.swap d) s = .next t ∧
      (t.reg d).toNat = 16 * ((s.reg d).toNat % 16) + (s.reg d).toNat / 16 ∧
      t.pc = s.pcPlus 1 ∧ OnlyChanged [d] [] s t)

/-! ## Branches -/

/-- RJMP, IJMP, EIJMP and JMP complete and change nothing but the program counter, which is their target modulo 2^PCBITS
(R161 to R164). The reduction modulo 2^PCBITS is the spec's decision D4 (assumption log 22). -/
def Obligations.jump_results : Prop :=
  ∀ (s : State) (k : BitVec 12) (a : BitVec 22), s.cfg.pcBits ≤ 22 →
    (∃ t, exec (.rjmp k) s = .next t ∧
      (t.pc.toNat : Int) = (s.pc.toNat + k.toInt + 1 : Int) % (2 ^ s.cfg.pcBits : Nat) ∧ OnlyChanged [] [] s t) ∧
    (∃ t, exec .ijmp s = .next t ∧ t.pc.toNat = (s.pair 30).toNat % 2 ^ s.cfg.pcBits ∧ OnlyChanged [] [] s t) ∧
    (∃ t, exec .eijmp s = .next t ∧
      t.pc.toNat = (s.eind.toNat % 64 * 65536 + (s.pair 30).toNat) % 2 ^ s.cfg.pcBits ∧ OnlyChanged [] [] s t) ∧
    (∃ t, exec (.jmp a) s = .next t ∧ t.pc.toNat = a.toNat % 2 ^ s.cfg.pcBits ∧ OnlyChanged [] [] s t)

/-- RCALL, ICALL, EICALL and CALL complete wherever their return address can be stacked: the address of the next
instruction is pushed and the program counter is the target, Z and EIND being read before the push (R165 to R168, R72);
bytes that fall in the register file or the I/O space are written there. Where the first byte that cannot be stacked has
an address that does not exist, they fault with that address (R64, R70). The byte order of the stacked address is the
spec's decision D7, that Z and EIND are read first D2, the fault D13 (assumption log 24, 27, 28). Which location is which
register is decision D5 (assumption log 26). That a write to one of the device's own I/O locations changes nothing but
what the device's functions change, which is the model's choice (assumption log 11). -/
def Obligations.call_results : Prop :=
  ∀ (s : State) (k : BitVec 12) (a : BitVec 22), SpInRange s →
    ((∀ i, i < s.cfg.pcBytes → StackByteOk s (pushAddress s i)) →
      (∃ t, exec (.rcall k) s = .next t ∧ t.pc = s.relTarget k.toInt ∧ PushedPc s t (s.pcPlus 1)) ∧
      (∃ t, exec .icall s = .next t ∧ t.pc = wrapPc s.cfg (s.pair 30).toNat ∧ PushedPc s t (s.pcPlus 1)) ∧
      (∃ t, exec .eicall s = .next t ∧
        t.pc = wrapPc s.cfg (s.eind.toNat % 64 * 65536 + (s.pair 30).toNat) ∧ PushedPc s t (s.pcPlus 1)) ∧
      (∃ t, exec (.call a) s = .next t ∧ t.pc = wrapPc s.cfg a.toNat ∧ PushedPc s t (s.pcPlus 2))) ∧
    (∀ i, i < s.cfg.pcBytes → (∀ j, j < i → StackByteOk s (pushAddress s j)) →
      locate s.cfg (pushAddress s i) = .unmapped →
      ∀ x ∈ [Instr.rcall k, .icall, .eicall, .call a], exec x s = .fault (.unmappedData (pushAddress s i)))

/-- RET and RETI complete wherever the stacked bytes can be read: the program counter is the address they hold, most
significant byte first, SP is higher by PCBYTES, and RETI sets I and no other flag (R169, R170, R73). Where the first byte
that cannot be popped has an address that does not exist, they fault with that address (R63, R71). The byte order of the
stacked address is the spec's decision D7, the fault D13 (assumption log 24, 27). That reading a stack byte at one of the
device's own I/O locations leaves SREG, the special registers, the lock bits, every memory and the other I/O locations as
they are is the model's choice (assumption log 11). -/
def Obligations.return_results : Prop :=
  ∀ s : State,
    ((∀ i, i < s.cfg.pcBytes → StackByteOk s (pullAddress s i)) →
      (∃ t, exec .ret s = .next t ∧ PoppedPc s t ∧ t.sreg = s.sreg ∧
        ((∀ i, i < s.cfg.pcBytes → NotDevice s (pullAddress s i)) →
          t.freeCount = s.freeCount ∧ some t.pc = (stackedPc s).map (wrapPc s.cfg))) ∧
      (∃ t, exec .reti s = .next t ∧ PoppedPc s t ∧ t.flag .I = true ∧ SameFlagsBut [.I] s t ∧
        ((∀ i, i < s.cfg.pcBytes → NotDevice s (pullAddress s i)) →
          t.freeCount = s.freeCount ∧ some t.pc = (stackedPc s).map (wrapPc s.cfg)))) ∧
    (∀ i, i < s.cfg.pcBytes → (∀ j, j < i → StackByteOk s (pullAddress s j)) →
      locate s.cfg (pullAddress s i) = .unmapped →
      exec .ret s = .fault (.unmappedData (pullAddress s i)) ∧
      exec .reti s = .fault (.unmappedData (pullAddress s i)))

/-- `PopPC` after `PushPC(t)` returns `t` (modulo 2^PCBITS) with SP as it was, wherever the bytes lie in SRAM (R73). The
byte order, which this statement does not depend on, is decision D7 (assumption log 27). -/
def Obligations.pop_after_push : Prop :=
  ∀ (s u : State) (t : PcWord), SpInRange s → (∀ i, i < s.cfg.pcBytes → locate s.cfg (pushAddress s i) = .sram) →
    pushPc s t = .next u → ∃ v, popPc u = .next (wrapPc s.cfg t.toNat, v) ∧ v.sp = s.sp

/-- CPSE, SBRC and SBRS complete wherever the next word can be read: past one or two words if the condition holds, else to
the next word; nothing else changes (R171, R175, R176, R99, R201). Where the next word lies beyond program memory they
complete if the condition does not hold and fault with fetchOutOfRange if it does (R67, R201). That the length is decided
by the next word's bits alone is the spec's decision D18, the fault D4 (assumption log 23, 31). -/
def Obligations.register_skips : Prop :=
  ∀ (s : State) (d r : Reg) (b : BitVec 3),
   ((s.pcPlus 1).toNat < s.cfg.flashWords →
    (∃ t, exec (.cpse d r) s = .next t ∧ OnlyChanged [] [] s t ∧
      t.pc = s.pcPlus (if s.reg d = s.reg r then
        (if isTwoWord (Memory.readWord .prog s.prog (s.pcPlus 1).toNat) then 3 else 2) else 1)) ∧
    (∃ t, exec (.sbrc r b) s = .next t ∧ OnlyChanged [] [] s t ∧
      t.pc = s.pcPlus (if (s.reg r).getLsbD b.toNat = false then
        (if isTwoWord (Memory.readWord .prog s.prog (s.pcPlus 1).toNat) then 3 else 2) else 1)) ∧
    (∃ t, exec (.sbrs r b) s = .next t ∧ OnlyChanged [] [] s t ∧
      t.pc = s.pcPlus (if (s.reg r).getLsbD b.toNat = true then
        (if isTwoWord (Memory.readWord .prog s.prog (s.pcPlus 1).toNat) then 3 else 2) else 1))) ∧
   (s.cfg.flashWords ≤ (s.pcPlus 1).toNat →
    SkipAtEnd s s (decide (s.reg d = s.reg r)) (exec (.cpse d r) s) ∧
    SkipAtEnd s s (!(s.reg r).getLsbD b.toNat) (exec (.sbrc r b) s) ∧
    SkipAtEnd s s ((s.reg r).getLsbD b.toNat) (exec (.sbrs r b) s))

/-- SBIC and SBIS complete wherever the next word can be read: one read of the I/O location, as IN makes it, then as the
other skips, at the end of program memory too; nothing changes but what the read changes in the device, a device location
counting one access (R177, R178, R65, R67, R99, R201). The device's functions, and that a read at one of its own locations
changes nothing else, are the model's choice (assumption log 11); D18 and D4 as for the other skips (assumption log 23,
31). -/
def Obligations.io_skips : Prop :=
  ∀ (s : State) (A : BitVec 5) (b : BitVec 3),
   ((s.pcPlus 1).toNat < s.cfg.flashWords →
    (∃ t, exec (.sbic A b) s = .next t ∧ OnlyChanged [] [] (ioRead s (0#1 ++ A)).2 t ∧
      t.freeCount = (if ioOwner s.cfg (0#1 ++ A) = .device then s.freeCount + 1 else s.freeCount) ∧
      t.pc = s.pcPlus (if (ioRead s (0#1 ++ A)).1.getLsbD b.toNat = false then
        (if isTwoWord (Memory.readWord .prog s.prog (s.pcPlus 1).toNat) then 3 else 2) else 1)) ∧
    (∃ t, exec (.sbis A b) s = .next t ∧ OnlyChanged [] [] (ioRead s (0#1 ++ A)).2 t ∧
      t.freeCount = (if ioOwner s.cfg (0#1 ++ A) = .device then s.freeCount + 1 else s.freeCount) ∧
      t.pc = s.pcPlus (if (ioRead s (0#1 ++ A)).1.getLsbD b.toNat = true then
        (if isTwoWord (Memory.readWord .prog s.prog (s.pcPlus 1).toNat) then 3 else 2) else 1))) ∧
   (s.cfg.flashWords ≤ (s.pcPlus 1).toNat →
    SkipAtEnd s (ioRead s (0#1 ++ A)).2 (!(ioRead s (0#1 ++ A)).1.getLsbD b.toNat) (exec (.sbic A b) s) ∧
    SkipAtEnd s (ioRead s (0#1 ++ A)).2 ((ioRead s (0#1 ++ A)).1.getLsbD b.toNat) (exec (.sbis A b) s))

/-- BRBS and BRBC complete, go to pc + k + 1 if the named flag is set, respectively cleared, else to pc + 1, modulo
2^PCBITS, and change nothing else (R179, R180). The reduction modulo 2^PCBITS is the spec's decision D4 (assumption log
22). -/
def Obligations.flag_branches : Prop :=
  ∀ (s : State) (f : Flag) (k : BitVec 7), s.cfg.pcBits ≤ 22 →
    (∃ t, exec (.brbs f k) s = .next t ∧ OnlyChanged [] [] s t ∧
      (t.pc.toNat : Int) = (s.pc.toNat + (if s.sreg.getLsbD f.toNat then k.toInt else 0) + 1 : Int) %
        (2 ^ s.cfg.pcBits : Nat)) ∧
    (∃ t, exec (.brbc f k) s = .next t ∧ OnlyChanged [] [] s t ∧
      (t.pc.toNat : Int) = (s.pc.toNat + (if s.sreg.getLsbD f.toNat then 0 else k.toInt) + 1 : Int) %
        (2 ^ s.cfg.pcBits : Nat))

/-- The eighteen named branches complete, each going to pc + k + 1 exactly where its own flag has the value its page names, else
to pc + 1, and change nothing else (R181 to R198). -/
def Obligations.named_branches : Prop :=
  ∀ (s : State) (k : BitVec 7),
    ∀ x ∈ ([(.breq k, Flag.Z, true), (.brne k, Flag.Z, false), (.brcs k, Flag.C, true), (.brcc k, Flag.C, false),
      (.brsh k, Flag.C, false), (.brlo k, Flag.C, true), (.brmi k, Flag.N, true), (.brpl k, Flag.N, false),
      (.brge k, Flag.S, false), (.brlt k, Flag.S, true), (.brhs k, Flag.H, true), (.brhc k, Flag.H, false),
      (.brts k, Flag.T, true), (.brtc k, Flag.T, false), (.brvs k, Flag.V, true), (.brvc k, Flag.V, false),
      (.brie k, Flag.I, true), (.brid k, Flag.I, false)] : List (Instr × Flag × Bool)),
      ∃ t, exec x.1 s = .next t ∧ OnlyChanged [] [] s t ∧
        t.pc = if s.sreg.getLsbD x.2.1.toNat = x.2.2 then s.relTarget k.toInt else s.pcPlus 1

/-- After CP, CPI, SUB or SUBI the branches decide the relation of the two bytes: BREQ and BRNE equality, BRLO and BRSH the unsigned
order, BRLT and BRGE the signed order (R199). -/
def Obligations.branches_decide_relations : Prop :=
  ∀ (s t : State) (d r : Reg) (K : Byte) (k : BitVec 7) (i : Instr) (b : Byte),
    ((i = .cp d r ∨ i = .sub d r) ∧ b = s.reg r ∨ (i = .cpi d K ∨ i = .subi d K) ∧ b = K) →
    exec i s = .next t →
    (exec (.breq k) t = if s.reg d = b then .next (t.setPc (t.relTarget k.toInt)) else .next (t.advance 1)) ∧
    (exec (.brne k) t = if s.reg d ≠ b then .next (t.setPc (t.relTarget k.toInt)) else .next (t.advance 1)) ∧
    (exec (.brlo k) t =
      if (s.reg d).toNat < b.toNat then .next (t.setPc (t.relTarget k.toInt)) else .next (t.advance 1)) ∧
    (exec (.brsh k) t =
      if b.toNat ≤ (s.reg d).toNat then .next (t.setPc (t.relTarget k.toInt)) else .next (t.advance 1)) ∧
    (exec (.brlt k) t =
      if (s.reg d).toInt < b.toInt then .next (t.setPc (t.relTarget k.toInt)) else .next (t.advance 1)) ∧
    (exec (.brge k) t =
      if b.toInt ≤ (s.reg d).toInt then .next (t.setPc (t.relTarget k.toInt)) else .next (t.advance 1))

/-! ## Data transfer -/

/-- MOV, MOVW (of even registers) and LDI complete, copy one register, a pair, a constant, and change nothing else
(R221 to R223). -/
def Obligations.register_moves : Prop :=
  ∀ (s : State) (d r : Reg) (K : Byte),
    (∃ t, exec (.mov d r) s = .next t ∧ t.reg d = s.reg r ∧ t.pc = s.pcPlus 1 ∧ OnlyChanged [d] [] s t) ∧
    (∃ t, exec (.movw d r) s = .next t ∧ t.reg d = s.reg r ∧ t.reg (d + 1) = s.reg (r + 1) ∧
      t.pc = s.pcPlus 1 ∧ OnlyChanged [d, d + 1] [] s t) ∧
    (∃ t, exec (.ldi d K) s = .next t ∧ t.reg d = K ∧ t.pc = s.pcPlus 1 ∧ OnlyChanged [d] [] s t)

/-- LDS, LD and LDD without pointer update load the byte at their address, wherever it lies, and fault where none is
(R224, R225, R230, R233, R234, R237, R63, R76). The layout of the data space, its faults and the wrap of the pointers are
the spec's decisions D3, D13 and D6 (assumption log 24, 25, 29); the device's functions, and that a read at one of its own
I/O locations changes nothing else, are the model's choice (assumption log 11). -/
def Obligations.plain_loads : Prop :=
  ∀ (s : State) (d : Reg) (k : Word) (q : BitVec 6),
    LoadSpec s d (eaDirect s k) 2 (exec (.lds d k) s) ∧
    LoadSpec s d (ptrGet s .X) 1 (exec (.ldX d) s) ∧
    LoadSpec s d (ptrGet s .Y) 1 (exec (.ldY d) s) ∧
    LoadSpec s d (ptrGet s .Z) 1 (exec (.ldZ d) s) ∧
    LoadSpec s d ((ptrGet s .Y + q.toNat) % ptrMod s.cfg) 1 (exec (.lddY d q) s) ∧
    LoadSpec s d ((ptrGet s .Z + q.toNat) % ptrMod s.cfg) 1 (exec (.lddZ d q) s)

/-- LD with post-increment or pre-decrement, past its two checks, loads the byte at the pointer before the increment,
respectively after the decrement, and leaves the pointer one higher, one lower, modulo PTRMOD (R226, R227, R231, R232,
R235, R236, R76). The wrap of the pointers is the spec's decision D6, the order of the two effects D2, the fault where no
byte is D13, the layout of the data space D3 (assumption log 24, 25, 28, 29). That a read at one of the device's own I/O
locations leaves the special registers, every memory and the other I/O locations as they are is the model's choice
(assumption log 11). -/
def Obligations.updating_loads : Prop :=
  ∀ (s : State) (d : Reg), s.cfg.rampBits ≤ 8 →
    ∀ x ∈ ([(Ptr.X, .ldXInc d, .ldXDec d), (Ptr.Y, .ldYInc d, .ldYDec d),
        (Ptr.Z, .ldZInc d, .ldZDec d)] : List (Ptr × Instr × Instr)),
      d ≠ x.1.lo → d ≠ x.1.lo + 1 →
      (ptrClash s.cfg x.1 (ptrGet s x.1) = false →
        PtrLoadSpec s x.1 d (ptrGet s x.1) ((ptrGet s x.1 + 1) % ptrMod s.cfg) (exec x.2.1 s)) ∧
      (ptrClash s.cfg x.1 (eaDec s x.1) = false →
        PtrLoadSpec s x.1 d (eaDec s x.1) (eaDec s x.1) (exec x.2.2 s))

/-- STS, ST and STD without pointer update store the register at their address, wherever it lies, and fault where no byte
is (R238, R239, R242, R245, R246, R249, R64, R76). The layout of the data space, its faults and the wrap of the pointers
are the spec's decisions D3, D13 and D6 (assumption log 24, 25, 29). An I/O location is written as OUT writes it; that a
write to one of the device's own I/O locations changes nothing but what the device's functions change, which is the
model's choice (assumption log 11). -/
def Obligations.plain_stores : Prop :=
  ∀ (s : State) (r : Reg) (k : Word) (q : BitVec 6),
    StoreSpec s (eaDirect s k) (s.reg r) 2 (exec (.sts k r) s) ∧
    StoreSpec s (ptrGet s .X) (s.reg r) 1 (exec (.stX r) s) ∧
    StoreSpec s (ptrGet s .Y) (s.reg r) 1 (exec (.stY r) s) ∧
    StoreSpec s (ptrGet s .Z) (s.reg r) 1 (exec (.stZ r) s) ∧
    StoreSpec s ((ptrGet s .Y + q.toNat) % ptrMod s.cfg) (s.reg r) 1 (exec (.stdY q r) s) ∧
    StoreSpec s ((ptrGet s .Z + q.toNat) % ptrMod s.cfg) (s.reg r) 1 (exec (.stdZ q r) s)

/-- ST with post-increment or pre-decrement, past its two checks, stores the register at the pointer before the increment,
respectively after the decrement, and leaves the pointer one higher, one lower, modulo PTRMOD (R240, R241, R243, R244,
R247, R248, R76). The wrap of the pointers is the spec's decision D6, the order of the two effects D2, the fault where no
byte is D13, the layout of the data space D3 (assumption log 24, 25, 28, 29). An I/O location is written as OUT writes it;
that a write to one of the device's own I/O locations changes nothing but what the device's functions change, which is the
model's choice (assumption log 11). -/
def Obligations.updating_stores : Prop :=
  ∀ (s : State) (r : Reg), s.cfg.rampBits ≤ 8 →
    ∀ x ∈ ([(Ptr.X, .stXInc r, .stXDec r), (Ptr.Y, .stYInc r, .stYDec r),
        (Ptr.Z, .stZInc r, .stZDec r)] : List (Ptr × Instr × Instr)),
      r ≠ x.1.lo → r ≠ x.1.lo + 1 →
      (ptrClash s.cfg x.1 (ptrGet s x.1) = false →
        PtrStoreSpec s x.1 (s.reg r) (ptrGet s x.1) ((ptrGet s x.1 + 1) % ptrMod s.cfg) (exec x.2.1 s)) ∧
      (ptrClash s.cfg x.1 (eaDec s x.1) = false →
        PtrStoreSpec s x.1 (s.reg r) (eaDec s x.1) (eaDec s x.1) (exec x.2.2 s))

/-- The 28 operand combinations whose result the manual calls undefined are refused by name with their first word, in
every state; there is no other well-formed primary instruction whose outcome is that refusal (R229). The refusal is the
spec's decision D20 (assumption log 20). -/
def Obligations.undefined_combinations_refused : Prop :=
  (∀ (s : State) (i : Instr), firstWord i ∈
      [0x91AD#16, 0x91BD#16, 0x91AE#16, 0x91BE#16, 0x91C9#16, 0x91D9#16, 0x91CA#16, 0x91DA#16,
       0x91E1#16, 0x91F1#16, 0x91E2#16, 0x91F2#16, 0x93AD#16, 0x93BD#16, 0x93AE#16, 0x93BE#16,
       0x93C9#16, 0x93D9#16, 0x93CA#16, 0x93DA#16, 0x93E1#16, 0x93F1#16, 0x93E2#16, 0x93F2#16,
       0x91E5#16, 0x91F5#16, 0x91E7#16, 0x91F7#16] →
      exec i s = .refused (.unpredictableWord (firstWord i))) ∧
  (∀ (s : State) (i : Instr) (w : Word), exec i s = .refused (.unpredictableWord w) →
    w = firstWord i ∧ w ∈
      [0x91AD#16, 0x91BD#16, 0x91AE#16, 0x91BE#16, 0x91C9#16, 0x91D9#16, 0x91CA#16, 0x91DA#16,
       0x91E1#16, 0x91F1#16, 0x91E2#16, 0x91F2#16, 0x93AD#16, 0x93BD#16, 0x93AE#16, 0x93BE#16,
       0x93C9#16, 0x93D9#16, 0x93CA#16, 0x93DA#16, 0x93E1#16, 0x93F1#16, 0x93E2#16, 0x93F2#16,
       0x91E5#16, 0x91F5#16, 0x91E7#16, 0x91F7#16])

/-- An access that hits the pointer or the stack pointer it is updating is refused with its address: the updating loads
and stores at their own pointer's registers or RAMP register, and every stack access at SPL or SPH: PUSH, POP, and the
first byte that cannot be stacked of a call, a return and an interrupt entry (R87). The refusal is the spec's decision D15
(assumption log 21). -/
def Obligations.self_referential_accesses_refused : Prop :=
  (∀ (s : State) (d : Reg), ∀ x ∈ ([(Ptr.X, .ldXInc d, .stXInc d, .ldXDec d, .stXDec d),
        (Ptr.Y, .ldYInc d, .stYInc d, .ldYDec d, .stYDec d),
        (Ptr.Z, .ldZInc d, .stZInc d, .ldZDec d, .stZDec d)] : List (Ptr × Instr × Instr × Instr × Instr)),
    d ≠ x.1.lo → d ≠ x.1.lo + 1 →
    (ptrClash s.cfg x.1 (ptrGet s x.1) = true →
      exec x.2.1 s = .refused (.unpredictableAddress (ptrGet s x.1)) ∧
      exec x.2.2.1 s = .refused (.unpredictableAddress (ptrGet s x.1))) ∧
    (ptrClash s.cfg x.1 (eaDec s x.1) = true →
      exec x.2.2.2.1 s = .refused (.unpredictableAddress (eaDec s x.1)) ∧
      exec x.2.2.2.2 s = .refused (.unpredictableAddress (eaDec s x.1)))) ∧
  (∀ (cfg : Config) (p : Ptr) (a : Nat), ptrClash cfg p a = true ↔
    (locate cfg a = .reg p.lo ∨ locate cfg a = .reg (p.lo + 1) ∨
      (cfg.dataClass = .gt64K ∧ ∃ A, locate cfg a = .io A ∧ ioOwner cfg A = p.rampIo))) ∧
  (∀ (s : State) (r : Reg) (A : BitVec 6), (ioOwner s.cfg A = .spl ∨ ioOwner s.cfg A = .sph) →
    (locate s.cfg s.sp.toNat = .io A → exec (.push r) s = .refused (.unpredictableAddress s.sp.toNat)) ∧
    (locate s.cfg (pullAddress s 0) = .io A →
      exec (.pop r) s = .refused (.unpredictableAddress (pullAddress s 0)))) ∧
  (∀ (cfg : Config) (a : Nat), stackClash cfg a = true ↔
    ∃ A, locate cfg a = .io A ∧ (ioOwner cfg A = .spl ∨ ioOwner cfg A = .sph)) ∧
  (∀ (s : State) (k : BitVec 12) (a : BitVec 22) (i : Nat), SpInRange s → i < s.cfg.pcBytes →
    (∀ j, j < i → StackByteOk s (pushAddress s j)) → stackClash s.cfg (pushAddress s i) = true →
    (∀ x ∈ [Instr.rcall k, .icall, .eicall, .call a],
      exec x s = .refused (.unpredictableAddress (pushAddress s i))) ∧
    (∀ n, resetDue s = false → interruptToTake s = some n →
      step s = .refused (.unpredictableAddress (pushAddress s i)))) ∧
  (∀ (s : State) (i : Nat), i < s.cfg.pcBytes →
    (∀ j, j < i → StackByteOk s (pullAddress s j)) → stackClash s.cfg (pullAddress s i) = true →
    exec .ret s = .refused (.unpredictableAddress (pullAddress s i)) ∧
    exec .reti s = .refused (.unpredictableAddress (pullAddress s i)))

/-- The three forms of LPM complete wherever the byte is in program memory: the byte Z addresses, low byte at even
addresses; the increment is of Z's 16 bits and not of RAMPZ; beyond program memory they fault (R250 to R252, R68). The
fault beyond program memory is the spec's decision D4 (assumption log 23). -/
def Obligations.lpm_results : Prop :=
  ∀ (s : State) (d : Reg),
    ((s.pair 30).toNat < 2 * s.cfg.flashWords →
      (∃ t, exec .lpmR0 s = .next t ∧ t.reg 0 = programByte s (s.pair 30).toNat ∧ t.pc = s.pcPlus 1 ∧
        OnlyChanged [0] [] s t) ∧
      (∃ t, exec (.lpm d) s = .next t ∧ t.reg d = programByte s (s.pair 30).toNat ∧ t.pc = s.pcPlus 1 ∧
        OnlyChanged [d] [] s t) ∧
      (d ≠ 30 → d ≠ 31 → ∃ t, exec (.lpmInc d) s = .next t ∧ t.reg d = programByte s (s.pair 30).toNat ∧
        (t.pair 30).toNat = ((s.pair 30).toNat + 1) % 65536 ∧ t.pc = s.pcPlus 1 ∧
        OnlyChanged [d, 30, 31] [] s t)) ∧
    (2 * s.cfg.flashWords ≤ (s.pair 30).toNat →
      exec .lpmR0 s = .fault (.progReadOutOfRange (s.pair 30).toNat) ∧
      exec (.lpm d) s = .fault (.progReadOutOfRange (s.pair 30).toNat) ∧
      (d ≠ 30 → d ≠ 31 → exec (.lpmInc d) s = .fault (.progReadOutOfRange (s.pair 30).toNat)))

/-- The three forms of ELPM complete wherever the byte is in program memory: the byte RAMPZ:Z addresses; the increment
carries from Z into RAMPZ, modulo 2^(16 + RAMPBITS); beyond program memory they fault (R253 to R255, R68). The fault
beyond program memory is the spec's decision D4 (assumption log 23); that a device without RAMPZ uses the field all the same is
the model's choice (assumption log 39). -/
def Obligations.elpm_results : Prop :=
  ∀ (s : State) (d : Reg) (b : Nat), s.cfg.rampBits ≤ 8 → b = s.rampz.toNat * 65536 + (s.pair 30).toNat →
    (b < 2 * s.cfg.flashWords →
      (∃ t, exec .elpmR0 s = .next t ∧ t.reg 0 = programByte s b ∧ t.pc = s.pcPlus 1 ∧ OnlyChanged [0] [] s t) ∧
      (∃ t, exec (.elpm d) s = .next t ∧ t.reg d = programByte s b ∧ t.pc = s.pcPlus 1 ∧
        OnlyChanged [d] [] s t) ∧
      (d ≠ 30 → d ≠ 31 → ∃ t, exec (.elpmInc d) s = .next t ∧ t.reg d = programByte s b ∧
        t.rampz.toNat * 65536 + (t.pair 30).toNat = (b + 1) % 2 ^ (16 + s.cfg.rampBits) ∧ t.pc = s.pcPlus 1 ∧
        OnlyChanged [d, 30, 31] [] s { t with rampz := s.rampz })) ∧
    (2 * s.cfg.flashWords ≤ b →
      exec .elpmR0 s = .fault (.progReadOutOfRange b) ∧ exec (.elpm d) s = .fault (.progReadOutOfRange b) ∧
      (d ≠ 30 → d ≠ 31 → exec (.elpmInc d) s = .fault (.progReadOutOfRange b)))

/-- IN completes: SREG, the two halves of SP, the RAMP registers, EIND, SPMCR, the MCU control register and plain storage
read as they are, a device location answers the device's IoRead and has its side effects; nothing else changes but the
register (R256, R65). Which location is which register is the spec's decision D5 and a parameter (assumption log 26); the
device's functions, and that a read at one of its own locations changes nothing else, are the model's choice (assumption
log 11). -/
def Obligations.in_results : Prop :=
  ∀ (s : State) (d : Reg) (A : BitVec 6), ∃ t, exec (.ioIn d A) s = .next t ∧ t.pc = s.pcPlus 1 ∧
    OnlyChanged [d] []
      (if ioOwner s.cfg A = .device then s.setDevicePart (Config.deviceRead s.freeCount A s.devicePart).2 else s) t ∧
    t.freeCount = (if ioOwner s.cfg A = .device then s.freeCount + 1 else s.freeCount) ∧
    (match ioOwner s.cfg A with
     | .sreg => t.reg d = s.sreg
     | .spl => (t.reg d).toNat = s.sp.toNat % 256
     | .sph => (t.reg d).toNat = s.sp.toNat / 256
     | .rampx => t.reg d = s.rampx
     | .rampy => t.reg d = s.rampy
     | .rampz => t.reg d = s.rampz
     | .rampd => t.reg d = s.rampd
     | .eind => t.reg d = s.eind
     | .spmcr => t.reg d = s.spmcr
     | .mcucr => t.reg d = s.mcucr
     | .device => t.reg d = (Config.deviceRead s.freeCount A s.devicePart).1
     | .storage => t.reg d = ioByte s A.toNat)

/-- OUT completes and changes the location written and nothing else: SREG whole, one half of SP, a RAMP register in its
RAMPBITS bits, EIND, SPMCR, the MCU control register, one byte of storage; at a device location the device's part changes
as the device's IoWrite says (R257, R65). Which location is which register is the spec's decision D5 and a parameter
(assumption log 26); the device's functions, and that a write at one of its own locations changes nothing else, are the
model's choice (assumption log 11). -/
def Obligations.out_results : Prop :=
  ∀ (s : State) (r : Reg) (A : BitVec 6), ∃ t, exec (.ioOut A r) s = .next t ∧ t.pc = s.pcPlus 1 ∧
    SameRegsBut [] s t ∧ t.cfg = s.cfg ∧ t.holdoff = s.holdoff ∧ t.sleeping = s.sleeping ∧
    t.devicePart = (if ioOwner s.cfg A = .device then
      Config.deviceWrite s.freeCount A (s.reg r) s.devicePart else s.devicePart) ∧
    t.freeCount = (if ioOwner s.cfg A = .device then s.freeCount + 1 else s.freeCount) ∧ t.blbits = s.blbits ∧
    (∀ a, sramByte t a = sramByte s a) ∧ (∀ b, programByte t b = programByte s b) ∧
    (∀ b, bufferByte t b = bufferByte s b) ∧
    (∀ B, ioByte t B = if ioOwner s.cfg A = .storage ∧ B = A.toNat then s.reg r else ioByte s B) ∧
    t.sreg = (if ioOwner s.cfg A = .sreg then s.reg r else s.sreg) ∧
    t.sp.toNat = (if ioOwner s.cfg A = .spl then s.sp.toNat / 256 * 256 + (s.reg r).toNat
      else if ioOwner s.cfg A = .sph then (s.reg r).toNat * 256 + s.sp.toNat % 256 else s.sp.toNat) ∧
    t.rampx.toNat = (if ioOwner s.cfg A = .rampx then (s.reg r).toNat % 2 ^ s.cfg.rampBits else s.rampx.toNat) ∧
    t.rampy.toNat = (if ioOwner s.cfg A = .rampy then (s.reg r).toNat % 2 ^ s.cfg.rampBits else s.rampy.toNat) ∧
    t.rampz.toNat = (if ioOwner s.cfg A = .rampz then (s.reg r).toNat % 2 ^ s.cfg.rampBits else s.rampz.toNat) ∧
    t.rampd.toNat = (if ioOwner s.cfg A = .rampd then (s.reg r).toNat % 2 ^ s.cfg.rampBits else s.rampd.toNat) ∧
    t.eind = (if ioOwner s.cfg A = .eind then s.reg r else s.eind) ∧
    t.spmcr = (if ioOwner s.cfg A = .spmcr then s.reg r else s.spmcr) ∧
    t.mcucr = (if ioOwner s.cfg A = .mcucr then s.reg r else s.mcucr)

/-- PUSH completes wherever a byte can lie at SP: the register lands there and SP is one lower; POP reads the byte at SP +
1 and SP is one higher; a byte that does not exist faults (R258, R259, R70, R71). The fault at an address that does not
exist is the spec's decision D13 (assumption log 24). The layout of the data space is decision D3 (assumption log 25);
that an access to one of the device's own I/O locations changes nothing but what the device's functions change is the
model's choice (assumption log 11). -/
def Obligations.push_pop_results : Prop :=
  ∀ (s : State) (r : Reg),
    (stackClash s.cfg s.sp.toNat = false →
      match locate s.cfg s.sp.toNat with
      | .reg i => ∃ t, exec (.push r) s = .next t ∧ t.reg i = s.reg r ∧ t.pc = s.pcPlus 1 ∧
          t.sp = wrapSp s.cfg (s.sp - 1) ∧ OnlyChanged [i] [] s { t with sp := s.sp }
      | .sram => ∃ t, exec (.push r) s = .next t ∧ sramByte t s.sp.toNat = s.reg r ∧ t.pc = s.pcPlus 1 ∧
          t.sp = wrapSp s.cfg (s.sp - 1) ∧ OnlyStored [] [s.sp.toNat] s { t with sp := s.sp }
      | .io A => exec (.push r) s =
          .next (((ioWrite s A (s.reg r)).setSp (wrapSp s.cfg (s.sp - 1))).setPc (s.pcPlus 1))
      | .unmapped => exec (.push r) s = .fault (.unmappedData s.sp.toNat)) ∧
    (stackClash s.cfg (pullAddress s 0) = false →
      match memRead s (pullAddress s 0) with
      | .next x => ∃ t, exec (.pop r) s = .next t ∧ t.reg r = x.1 ∧ t.pc = s.pcPlus 1 ∧
          t.sp = wrapSp s.cfg (s.sp + 1) ∧ OnlyChanged [r] [] x.2 { t with sp := s.sp }
      | _ => exec (.pop r) s = .fault (.unmappedData (pullAddress s 0)))

/-- SPM and ESPM are refused by name on a device that defines no program memory writing, or none for the command in SPMCR,
and where the page or word asked for is not one the instruction can address: 32K words for SPM, all of program memory for
ESPM (R262, R263). Only the refusal without such a device is the spec's decision D14; that a device which defines SPM has
a value of SPMCR without a command, or a page or word beyond the instruction's reach, refused, and which page or word an
address names, is the model's choice (assumption log 18), as is the use of the RAMPZ field on a device without RAMPZ
(assumption log 39). -/
def Obligations.spm_without_device : Prop :=
  (∀ s : State, (∀ dev, s.cfg.spm = some dev → dev.commands.lookup s.spmcr = none) →
    exec .spm s = .refused (.deviceSpecific .SPM) ∧ exec .espm s = .refused (.deviceSpecific .ESPM)) ∧
  (∀ (s : State) (dev : SpmDevice) (op : SpmOp), s.cfg.spm = some dev → dev.commands.lookup s.spmcr = some op →
    ∀ x ∈ [(Instr.spm, Mnemonic.SPM, (s.pair 30).toNat, min s.cfg.flashWords 32768),
        (.espm, .ESPM, s.rampz.toNat * 65536 + (s.pair 30).toNat, s.cfg.flashWords)],
    ∀ w base, w = (if dev.byteAddress then x.2.2.1 / 2 else x.2.2.1) → base = w / dev.pageWords * dev.pageWords →
    ((op = .erasePage ∨ op = .writePage) ∧ x.2.2.2 < base + dev.pageWords) ∨ (op = .writeWord ∧ x.2.2.2 ≤ w) →
    exec x.1 s = .refused (.deviceSpecific x.2.1))

/-- On a device that defines them, SPM and ESPM complete with the operation SPMCR selects, at Z and at RAMPZ:Z: a page
erased to $FFFF, a word written, a word put in the page buffer, a page written from the buffer, the lock bits set. A page
or a word of program memory must be one the instruction can address: 32K words for SPM, all of program memory for ESPM. No
general register, no flag, no special register but the lock bits and nothing else changes (R262, R263). The device's page
size, addressing and commands are parameters; which page or word an address names, that SPMCR keeps its value, and that
the rest of the device is left as it is, is the model's choice (assumption log 18), as is the use of the RAMPZ field on a
device without RAMPZ (assumption log 39). -/
def Obligations.spm_with_device : Prop :=
  ∀ (s : State) (dev : SpmDevice) (op : SpmOp), s.cfg.spm = some dev → dev.commands.lookup s.spmcr = some op →
    ∀ x ∈ [(Instr.spm, (s.pair 30).toNat, min s.cfg.flashWords 32768),
        (.espm, s.rampz.toNat * 65536 + (s.pair 30).toNat, s.cfg.flashWords)],
    ∀ w base, w = (if dev.byteAddress then x.2.1 / 2 else x.2.1) → base = w / dev.pageWords * dev.pageWords →
    (op = .erasePage ∨ op = .writePage → base + dev.pageWords ≤ x.2.2) → (op = .writeWord → w < x.2.2) →
    ∃ t, exec x.1 s = .next t ∧ t.pc = s.pcPlus 1 ∧ SameRegsBut [] s t ∧ t.sreg = s.sreg ∧ t.sp = s.sp ∧
      SameSpecial s { t with blbits := s.blbits } ∧ SameHidden s t ∧ t.freeCount = s.freeCount ∧
      (∀ a, sramByte t a = sramByte s a) ∧ (∀ A, ioByte t A = ioByte s A) ∧
      t.blbits = (if op = .setLockBits then s.pair 0 else s.blbits) ∧
      (∀ b, programByte t b =
        if op = .erasePage ∧ base ≤ b / 2 ∧ b / 2 < base + dev.pageWords then 0xFF
        else if op = .writeWord ∧ b / 2 = w then s.reg (if b % 2 = 0 then 0 else 1)
        else if op = .writePage ∧ base ≤ b / 2 ∧ b / 2 < base + dev.pageWords then
          bufferByte s (b - 2 * base)
        else programByte s b) ∧
      (∀ b, bufferByte t b =
        if op = .fillBuffer ∧ b / 2 = w % dev.pageWords then s.reg (if b % 2 = 0 then 0 else 1)
        else bufferByte s b)

/-! ## Bits and MCU control -/

/-- SBI and CBI complete: the location, read, with the named bit set, respectively cleared, is written back as OUT would
write it (R287, R288, R66), but where the device has an IoSetBit of its own for the location: there that function says
what changes in the device. That the other seven bits are read and written back is the spec's decision D8 (assumption log
30); the device's functions, and that an access to one of its own locations changes nothing else, are the model's choice
(assumption log 11). -/
def Obligations.sbi_cbi_results : Prop :=
  ∀ (s : State) (A : BitVec 5) (b : BitVec 3),
   (¬ (ioOwner s.cfg (0#1 ++ A) = .device ∧ 0#1 ++ A ∈ s.cfg.setBitIo) →
    (∃ t, exec (.sbi A b) s = .next t ∧ t.pc = s.pcPlus 1 ∧
      ∃ v : Byte, (∀ n < 8, v.getLsbD n = if n = b.toNat then true else (ioRead s (0#1 ++ A)).1.getLsbD n) ∧
        t = (ioWrite (ioRead s (0#1 ++ A)).2 (0#1 ++ A) v).setPc t.pc) ∧
    (∃ t, exec (.cbi A b) s = .next t ∧ t.pc = s.pcPlus 1 ∧
      ∃ v : Byte, (∀ n < 8, v.getLsbD n = if n = b.toNat then false else (ioRead s (0#1 ++ A)).1.getLsbD n) ∧
        t = (ioWrite (ioRead s (0#1 ++ A)).2 (0#1 ++ A) v).setPc t.pc)) ∧
   (ioOwner s.cfg (0#1 ++ A) = .device → 0#1 ++ A ∈ s.cfg.setBitIo →
    ∀ x ∈ [(Instr.sbi A b, true), (.cbi A b, false)],
      exec x.1 s = .next ((s.setDevicePart
        (Config.deviceSetBit s.freeCount (0#1 ++ A) b x.2 s.devicePart)).setPc (s.pcPlus 1)))

/-- BST completes with T the named bit of the register; BLD with that bit of the register T; nothing else changes (R289, R290). -/
def Obligations.bst_bld_results : Prop :=
  ∀ (s : State) (d : Reg) (b : BitVec 3),
    (∃ t, exec (.bst d b) s = .next t ∧ t.flag .T = (s.reg d).getLsbD b.toNat ∧ t.pc = s.pcPlus 1 ∧
      OnlyChanged [] [.T] s t) ∧
    (∃ t, exec (.bld d b) s = .next t ∧
      (∀ n < 8, (t.reg d).getLsbD n = if n = b.toNat then s.flag .T else (s.reg d).getLsbD n) ∧
      t.pc = s.pcPlus 1 ∧ OnlyChanged [d] [] s t)

/-- BSET and BCLR, and their sixteen named forms with the flag their page names, complete with that flag of SREG set, respectively
cleared, and nothing else changed (R293 to R310). -/
def Obligations.flag_instruction_results : Prop :=
  ∀ (s : State) (f : Flag),
    ∀ x ∈ [(Instr.bset f, f, true), (Instr.bclr f, f, false),
      (Instr.sec, Flag.C, true), (Instr.clc, Flag.C, false), (Instr.sen, Flag.N, true), (Instr.cln, Flag.N, false),
      (Instr.sez, Flag.Z, true), (Instr.clz, Flag.Z, false), (Instr.sei, Flag.I, true), (Instr.cli, Flag.I, false),
      (Instr.ses, Flag.S, true), (Instr.cls, Flag.S, false), (Instr.sev, Flag.V, true), (Instr.clv, Flag.V, false),
      (Instr.setT, Flag.T, true), (Instr.clt, Flag.T, false), (Instr.seh, Flag.H, true), (Instr.clh, Flag.H, false)],
      ∃ t, exec x.1 s = .next t ∧ t.flag x.2.1 = x.2.2 ∧ t.pc = s.pcPlus 1 ∧ OnlyChanged [] [x.2.1] s t

/-- NOP, SLEEP and WDR complete. NOP moves the program counter and nothing else; SLEEP holds the core exactly where the
device's MCU control register asks for it; WDR restarts the watchdog timer (R311 to R313). What a device asks for and
counts is a parameter (assumption log 15, 16). That SLEEP and WDR change nothing else in the device is the model's choice
(assumption log 15, 16). -/
def Obligations.mcu_control_results : Prop :=
  ∀ s : State,
    (∃ t, exec .nop s = .next t ∧ t.pc = s.pcPlus 1 ∧ OnlyChanged [] [] s t) ∧
    (∃ t, exec .sleep s = .next t ∧ t.pc = s.pcPlus 1 ∧ OnlyChanged [] [] s { t with sleeping := s.sleeping } ∧
      (s.sleeping = false → (t.sleeping = true ↔
        ∃ m v, s.cfg.sleepHold = some (m, v) ∧ s.mcucr &&& m = v))) ∧
    (∃ t, exec .wdr s = .next t ∧ t.pc = s.pcPlus 1 ∧ t.watchdog = 0 ∧
      OnlyChanged [] [] s { t with watchdog := s.watchdog })

/-! ## The machine -/

/-- A STEP RUNS THE DECODED INSTRUCTION: where no reset is due, no interrupt is to be taken and the core is not sleeping,
and the bytes at the program counter decode to an instruction the device implements, whose words lie in program memory,
the step is that instruction's meaning followed by the hold-off and the watchdog (R100, R336). The hold-off is the spec's
decision D22, the watchdog's count of steps the model's choice (assumption log 14, 16). -/
def Obligations.step_runs_the_decoded_instruction : Prop :=
  ∀ (s : State) (i : Instr) (rest : List Byte),
    resetDue s = false → interruptToTake s = none → s.sleeping = false →
    decodeBytes [programByte s (2 * s.pc.toNat), programByte s (2 * s.pc.toNat + 1),
      programByte s (2 * (s.pcPlus 1).toNat), programByte s (2 * (s.pcPlus 1).toNat + 1)] = .instr i rest →
    s.pc.toNat < s.cfg.flashWords → (i.words = 2 → (s.pcPlus 1).toNat < s.cfg.flashWords) →
    s.cfg.implements (mnemonicOf i) = true →
    step s = andThen (exec i s) fun t => .next (afterInstruction i s t)

/-- A fetch beyond program memory and an instruction the device lacks stop the step with their faults, the fetch of the
second word among them (R67, R100, R102). The faults are the spec's decisions D4 and D19 (assumption log 19, 23, 32). -/
def Obligations.fetch_faults : Prop :=
  ∀ s : State, resetDue s = false → interruptToTake s = none → s.sleeping = false →
    (s.cfg.flashWords ≤ s.pc.toNat → step s = .fault (.fetchOutOfRange s.pc)) ∧
    (∀ w2 i, s.pc.toNat < s.cfg.flashWords →
      decodeWords (Memory.readWord .prog s.prog s.pc.toNat) w2 = some i →
      (s.cfg.implements (mnemonicOf i) = false → step s = .fault (.unimplementedInstruction (mnemonicOf i))) ∧
      (s.cfg.implements (mnemonicOf i) = true → i.words = 2 → s.cfg.flashWords ≤ (s.pcPlus 1).toNat →
        step s = .fault (.fetchOutOfRange (s.pcPlus 1))))

/-- TAKING AN INTERRUPT: with I set, no hold-off or a sleeping core, and source n the lowest pending one of 1 to NVECT,
the step pushes the program counter as a call does, clears I and no other flag, acknowledges n, ends a sleep and goes to
VECTOR(n), wherever the return address can be stacked; nothing else changes but the watchdog timer (R336 to R338, R350).
Where the first byte that cannot be stacked has an address that does not exist, the step faults with that address (R337,
R70). The sequence is the spec's decision D11, the fault D13 (assumption log 13, 24). That the acknowledgement takes the
request out of the pending ones and leaves all others is the model's choice, since R333 leaves to the device how a request
is cleared (assumption log 12); the watchdog's count of the step is the model's too (assumption log 16). That the
acknowledgement changes nothing else in the device, and that a stack byte written to one of the device's own I/O locations
changes nothing but what the device's functions change, is the model's choice as well (assumption log 11, 12). -/
def Obligations.interrupt_entry : Prop :=
  ∀ (s : State) (n : Nat) (v : PcWord), resetDue s = false → s.flag .I = true →
    (s.holdoff = false ∨ s.sleeping = true) → s.pc.toNat < 2 ^ s.cfg.pcBits →
    1 ≤ n → s.cfg.vectors[n - 1]? = some v → n ∈ s.pending → (∀ m, 1 ≤ m → m < n → m ∉ s.pending) →
    SpInRange s →
    ((∀ i, i < s.cfg.pcBytes → StackByteOk s (pushAddress s i)) →
      ∃ t u, step s = .next t ∧ PushedPc s u s.pc ∧ t.pc = wrapPc s.cfg v.toNat ∧ t.flag .I = false ∧
        SameFlagsBut [.I] u t ∧ t.sleeping = false ∧ t.holdoff = s.holdoff ∧
        (∀ m, m ∈ t.pending ↔ m ∈ u.pending ∧ m ≠ n) ∧
        t = { u with pc := t.pc, sreg := t.sreg, pending := t.pending, sleeping := false, watchdog := t.watchdog }) ∧
    (∀ i, i < s.cfg.pcBytes → (∀ j, j < i → StackByteOk s (pushAddress s j)) →
      locate s.cfg (pushAddress s i) = .unmapped → step s = .fault (.unmappedData (pushAddress s i)))

/-- An interrupt taken and returned from at once goes on where the program was interrupted, with SP and the general
registers as they were, I set and the other flags as they were, where the stack lies in SRAM (R337, R339). The entry
sequence is the spec's decision D11 (assumption log 13). -/
def Obligations.interrupt_then_return : Prop :=
  ∀ (s t : State) (n : Nat), SpInRange s → s.pc.toNat < 2 ^ s.cfg.pcBits →
    (∀ i, i < s.cfg.pcBytes → locate s.cfg (pushAddress s i) = .sram) →
    takeInterrupt n s = .next t →
    ∃ u, exec .reti t = .next u ∧ u.pc = s.pc ∧ u.sp = s.sp ∧ SameRegsBut [] s u ∧ u.flag .I = true ∧
      SameFlagsBut [.I] s u

/-- THE HOLD-OFF: after a step that ran an instruction which set I, from 0 or by SEI, BSET 7 or RETI, the next step takes
no interrupt whatever is pending, and clears the hold-off if its own instruction is none of those and does not raise I
(R336, R342). The hold-off is the spec's decision D22 (assumption log 14). -/
def Obligations.holdoff_after_enabling : Prop :=
  ∀ (s t : State) (i : Instr), resetDue s = false → interruptToTake s = none → s.sleeping = false →
    fetch s = .next i → exec i s = .next t →
    ∃ u, step s = .next u ∧
      (u.holdoff = true ↔ (i = .sei ∨ i = .bset 7 ∨ i = .reti) ∨ (s.flag .I = false ∧ t.flag .I = true)) ∧
      (u.holdoff = true → u.sleeping = false → interruptToTake u = none)

/-- With I clear no interrupt is taken, and a sleeping core then waits: the step changes nothing but the watchdog timer;
with I set and a source pending a sleeping core takes the interrupt (R334, R336, R350). The rule is the spec's decision
D21 (assumption log 15). That the device is still meanwhile, but for the watchdog's count, is the model's choice
(assumption log 11, 12, 16). -/
def Obligations.sleeping_core : Prop :=
  ∀ s : State, resetDue s = false →
    (s.flag .I = false → interruptToTake s = none) ∧
    (s.sleeping = true → (s.flag .I = false ∨ ∀ n ∈ s.pending, n = 0 ∨ s.cfg.vectors.length < n) →
      ∃ t, step s = .next t ∧ { t with watchdog := s.watchdog } = s) ∧
    (s.sleeping = true → s.flag .I = true → (∃ n ∈ s.pending, 1 ≤ n ∧ n ≤ s.cfg.vectors.length) →
      ∃ n, n ∈ s.pending ∧ 1 ≤ n ∧ n ≤ s.cfg.vectors.length ∧
        step s = andThen (takeInterrupt n s) fun t => .next (tick t))

/-- A reset the device demands, or its watchdog running out, puts the machine in the reset state of its own parameters with its
program memory kept (R361, R362, the spec's decisions D10 and D21), also where an interrupt is due at the same boundary, which is
the model's choice of an order (assumption log 17). The zeros of the registers the spec leaves unspecified, and what is kept, are the
model's choice (assumption log 1 to 8, 17). -/
def Obligations.demanded_reset : Prop :=
  ∀ s : State, (s.resetDemanded = true ∨ ∃ n, s.cfg.watchdogLimit = some n ∧ n ≤ s.watchdog) →
    ∃ t, step s = .next t ∧ t.pc.toNat = s.cfg.resetPc.toNat % 2 ^ s.cfg.pcBits ∧ t.sreg = 0 ∧
      t.holdoff = false ∧ t.sleeping = false ∧ t.prog = s.prog ∧ t.cfg = s.cfg ∧
      (s.cfg.pcBits ≤ 22 → t = { State.powerOn s.cfg s.prog with blbits := s.blbits, freeCount := s.freeCount })

/-- What reset leaves: the reference configuration, the program counter at 0, SREG $00, no hold-off, not sleeping, nothing pending
(R41, R361, R6; SREG and the program counter are the spec's decisions D9 and D10, assumption log 7). The values of the general registers and SP, and what unwritten memory reads as, are the model's choice
(assumption log 1 to 8). -/
def Obligations.reset_values : Prop :=
  State.reset.cfg = Config.reference ∧ State.reset.pc = 0 ∧ State.reset.sreg = 0x00 ∧
  State.reset.holdoff = false ∧ State.reset.sleeping = false ∧ State.reset.pending = [] ∧
  (∀ i, State.reset.reg i = 0) ∧ State.reset.sp = 0 ∧ (∀ a, sramByte State.reset a = 0) ∧
  (∀ b, programByte State.reset b = 0xFF)

/-- THE INVARIANT HOLDS AFTER RESET. It rests on the reset values the model chose (assumption log 1 to 8). -/
def Obligations.invariant_at_reset : Prop := Inv State.reset

/-- EVERY STEP KEEPS THE INVARIANT, from every state that meets it, on every device. That a pending hold-off goes with I
set, and a sleeping core has none, follows from decisions D21 and D22 (assumption log 14, 15). That an access to one of
the device's own I/O locations changes no register and no memory is the model's choice (assumption log 11); what SPM
writes is a parameter (assumption log 18). -/
def Obligations.step_keeps_the_invariant : Prop :=
  ∀ s t : State, Inv s → step s = .next t → Inv t

/-- Program memory is written by SPM and ESPM only: every other instruction, and every interrupt, leaves each of its
bytes; no step changes the parameters (R67, R85). That SPM can write it is a parameter (assumption log 18). That an access
to one of the device's own I/O locations leaves program memory is the model's choice (assumption log 11). -/
def Obligations.program_memory_is_written_by_spm_only : Prop :=
  (∀ (s t : State) (i : Instr), storesProgram i = false → exec i s = .next t → ∀ b, programByte t b = programByte s b) ∧
  (∀ (s t : State) (n : Nat), takeInterrupt n s = .next t → ∀ b, programByte t b = programByte s b) ∧
  (∀ s t : State, step s = .next t → t.cfg = s.cfg)

/-- SREG changes only as R28 lists: an instruction that stores nothing leaves every flag its page does not name, in every
state. That a read at one of the device's own I/O locations leaves SREG is the model's choice (assumption log 11). -/
def Obligations.flags_change_only_as_listed : Prop :=
  ∀ (s t : State) (i : Instr), storesData i = false → exec i s = .next t → SameFlagsBut (flagsWritten i) s t

/-- Only stores and pushes change SRAM or the I/O locations of plain storage (not meant are the registers of the core and
the device's own locations): every other instruction leaves each of their bytes (R78, R85). That IN, a load, POP, a
return, SBIC or SBIS at one of the device's own I/O locations leaves SRAM and the plain storage is the model's choice
(assumption log 11), since R65 lets a read change the device. -/
def Obligations.memory_changes_only_by_stores : Prop :=
  ∀ (s t : State) (i : Instr), storesData i = false → exec i s = .next t →
    (∀ a, sramByte t a = sramByte s a) ∧ (∀ A, ioByte t A = ioByte s A)
end

