-- ==== Sys2Proof/Laws/Flags.lean ====
section
/-! SUPPORT. Writing one flag of SREG and reading it back; what each flag computation writes. -/

namespace Sys2Proof.Machine

/-- A flag after one flag is written. -/
theorem getFlag_setFlag (x : Byte) (f g : Flag) (v : Bool) :
    getFlag (setFlag x f v) g = if g = f then v else getFlag x g := by
  unfold getFlag setFlag
  have hf : f.toNat < 8 := f.isLt
  have hg : g.toNat < 8 := g.isLt
  by_cases h : g = f
  · subst h
    cases v <;> simp [hg]
  · have hne : g.toNat ≠ f.toNat := fun e => h (BitVec.eq_of_toNat_eq e)
    cases v <;> simp [h, hg] <;> omega

@[simp] theorem getFlag_setFlag_same (x : Byte) (f : Flag) (v : Bool) : getFlag (setFlag x f v) f = v := by
  simp [getFlag_setFlag]

theorem getFlag_setFlag_ne (x : Byte) {f g : Flag} (v : Bool) (h : g ≠ f) :
    getFlag (setFlag x f v) g = getFlag x g := by
  simp [getFlag_setFlag, h]

/-- A byte is its eight flags. -/
theorem sreg_ext (x y : Byte) (h : ∀ f : Flag, getFlag x f = getFlag y f) : x = y := by
  ext i hi
  have := h (BitVec.ofNat 3 i)
  simpa [getFlag, Nat.mod_eq_of_lt hi, BitVec.getLsbD_eq_getElem hi] using this

/-- SetNZS writes N, Z, V and S, and nothing else (R12). -/
theorem getFlag_setNZS (x r : Byte) (v : Bool) (g : Flag) :
    getFlag (setNZS x r v) g =
      if g = .S then (r.msb ^^ v) else if g = .V then v else if g = .Z then r == 0
      else if g = .N then r.msb else getFlag x g := by
  simp [setNZS, getFlag_setFlag]

/-- SetFlagsAddSub writes the six arithmetic flags (R15). -/
theorem getFlag_setFlagsAddSub (x : Byte) (q : Arith8) (g : Flag) :
    getFlag (setFlagsAddSub x q) g =
      if g = .S then (q.result.msb ^^ q.v) else if g = .V then q.v else if g = .Z then q.result == 0
      else if g = .N then q.result.msb else if g = .C then q.c else if g = .H then q.h else getFlag x g := by
  simp [setFlagsAddSub, getFlag_setNZS, getFlag_setFlag]

/-- SetFlagsSubCarry writes the six arithmetic flags, Z only downwards (R15). -/
theorem getFlag_setFlagsSubCarry (x : Byte) (q : Arith8) (g : Flag) :
    getFlag (setFlagsSubCarry x q) g =
      if g = .Z then q.result == 0 && getFlag x .Z else getFlag (setFlagsAddSub x q) g := by
  simp [setFlagsSubCarry, getFlag_setFlag]

end Sys2Proof.Machine
end

