-- ==== Sys2Proof/Laws/Memory.lean ====
section
/-! SUPPORT. The laws of memory: what a read answers after a write, and that every operation keeps the canonical form. -/

namespace Sys2Proof.Machine

theorem lookup_erase (m : Memory) (a b : Nat) :
    (Memory.erase m a).lookup b = if b = a then none else m.lookup b := by
  induction m with
  | nil => simp [Memory.erase]
  | cons c m ih =>
    obtain ⟨x, v⟩ := c
    simp only [Memory.erase] at ih
    by_cases hx : x = a
    · subst hx
      by_cases hb : b = x
      · simpa [Memory.erase, hb] using ih
      · have e : (b == x) = false := by simpa using hb
        simpa [Memory.erase, hb, List.lookup_cons, e] using ih
    · by_cases hb : b = x
      · subst hb; simp [Memory.erase, hx]
      · have e : (b == x) = false := by simpa using hb
        simpa [Memory.erase, hx, List.lookup_cons, e] using ih

theorem lookup_insert (m : Memory) (a b : Nat) (v : Byte) (h : m.lookup a = none) :
    (Memory.insert m a v).lookup b = if b = a then some v else m.lookup b := by
  induction m with
  | nil =>
    by_cases hb : b = a
    · simp [Memory.insert, hb]
    · have : (b == a) = false := by simpa using hb
      simp [Memory.insert, hb, List.lookup_cons, this]
  | cons c m ih =>
    obtain ⟨x, w⟩ := c
    have hxa : (a == x) = false := by
      cases e : a == x
      · rfl
      · simp [List.lookup_cons, e] at h
    have hm : m.lookup a = none := by simpa [List.lookup_cons, hxa] using h
    simp only [Memory.insert]
    split
    · by_cases hb : b = a
      · simp [hb]
      · have : (b == a) = false := by simpa using hb
        simp [hb, List.lookup_cons, this]
    · by_cases hbx : b = x
      · subst hbx
        have : ¬ b = a := by rintro rfl; simp at hxa
        simp [this]
      · have e : (b == x) = false := by simpa using hbx
        simp [List.lookup_cons, e, ih hm]

/-- Read after write: the address written reads the value, every other address reads as before. -/
theorem Memory.read_write (k : Space) (m : Memory) (a b : Nat) (v : Byte) :
    Memory.read k (Memory.write k m a v) b = if b = a then v else Memory.read k m b := by
  have he : (Memory.erase m a).lookup a = none := by simp [lookup_erase]
  unfold Memory.read Memory.write
  split
  · rename_i hv
    rw [lookup_erase]
    split <;> simp_all
  · rw [lookup_insert _ _ _ _ he, lookup_erase]
    split <;> simp_all

@[simp] theorem Memory.read_write_same (k : Space) (m : Memory) (a : Nat) (v : Byte) :
    Memory.read k (Memory.write k m a v) a = v := by simp [Memory.read_write]

theorem Memory.read_write_ne (k : Space) (m : Memory) {a b : Nat} (v : Byte) (h : b ≠ a) :
    Memory.read k (Memory.write k m a v) b = Memory.read k m b := by simp [Memory.read_write, h]

@[simp] theorem Memory.read_nil (k : Space) (a : Nat) : Memory.read k [] a = k.unlisted := rfl

/-- The canonical form, spelled out. -/
theorem Memory.wf_iff (k : Space) (m : Memory) :
    Memory.wf k m = true ↔ m.Pairwise (fun x y => x.1 < y.1) ∧ ∀ c ∈ m, c.2 ≠ k.unlisted := by
  simp [Memory.wf]

@[simp] theorem Memory.wf_nil (k : Space) : Memory.wf k [] = true := rfl

theorem Memory.mem_erase {m : Memory} {a : Nat} {c : Host.Cell} :
    c ∈ Memory.erase m a ↔ c ∈ m ∧ c.1 ≠ a := by simp [Memory.erase]

theorem Memory.mem_insert {m : Memory} {a : Nat} {v : Byte} {c : Host.Cell} :
    c ∈ Memory.insert m a v ↔ c = (a, v) ∨ c ∈ m := by
  induction m with
  | nil => simp [Memory.insert]
  | cons d m ih =>
    simp only [Memory.insert]
    split
    · simp
    · simp only [List.mem_cons, ih]
      tauto

theorem Memory.pairwise_insert {m : Memory} {a : Nat} {v : Byte}
    (h : m.Pairwise fun x y => x.1 < y.1) (ha : ∀ c ∈ m, c.1 ≠ a) :
    (Memory.insert m a v).Pairwise fun x y => x.1 < y.1 := by
  induction m with
  | nil => simp [Memory.insert]
  | cons d m ih =>
    rw [List.pairwise_cons] at h
    simp only [Memory.insert]
    split
    · rename_i had
      refine List.pairwise_cons.2 ⟨?_, List.pairwise_cons.2 h⟩
      intro c hc
      rcases List.mem_cons.1 hc with rfl | hc
      · exact had
      · exact lt_trans had (h.1 c hc)
    · rename_i had
      refine List.pairwise_cons.2 ⟨?_, ih h.2 fun c hc => ha c (List.mem_cons_of_mem _ hc)⟩
      intro c hc
      rcases Memory.mem_insert.1 hc with rfl | hc
      · exact lt_of_le_of_ne (not_lt.1 had) (ha d (by simp))
      · exact h.1 c hc

/-- A write keeps the canonical form. -/
theorem Memory.wf_write (k : Space) (m : Memory) (a : Nat) (v : Byte) (h : Memory.wf k m = true) :
    Memory.wf k (Memory.write k m a v) = true := by
  rw [Memory.wf_iff] at h ⊢
  have hp : (Memory.erase m a).Pairwise fun x y => x.1 < y.1 := h.1.filter _
  unfold Memory.write
  split
  · exact ⟨hp, fun c hc => h.2 c (Memory.mem_erase.1 hc).1⟩
  · rename_i hv
    refine ⟨Memory.pairwise_insert hp fun c hc => (Memory.mem_erase.1 hc).2, ?_⟩
    intro c hc
    rcases Memory.mem_insert.1 hc with rfl | hc
    · exact hv
    · exact h.2 c (Memory.mem_erase.1 hc).1

/-- The entries after a write are old ones or the one written. -/
theorem Memory.mem_write {k : Space} {m : Memory} {a : Nat} {v : Byte} {c : Host.Cell}
    (h : c ∈ Memory.write k m a v) : c = (a, v) ∨ c ∈ m := by
  unfold Memory.write at h
  split at h
  · exact .inr (Memory.mem_erase.1 h).1
  · rcases Memory.mem_insert.1 h with h | h
    · exact .inl h
    · exact .inr (Memory.mem_erase.1 h).1

/-- A word write keeps the canonical form. -/
theorem Memory.wf_writeWord (k : Space) (m : Memory) (w : Nat) (v : Word) (h : Memory.wf k m = true) :
    Memory.wf k (Memory.writeWord k m w v) = true :=
  Memory.wf_write _ _ _ _ (Memory.wf_write _ _ _ _ h)

/-- A write of many words is its first words' write and then the last word's. -/
theorem Memory.writeWords_succ (k : Space) (m : Memory) (base n : Nat) (f : Nat → Word) :
    Memory.writeWords k m base (n + 1) f =
      Memory.writeWord k (Memory.writeWords k m base n f) (base + n) (f n) := by
  simp [Memory.writeWords, List.range_succ]

/-- A write of many words keeps the canonical form. -/
theorem Memory.wf_writeWords (k : Space) (m : Memory) (base n : Nat) (f : Nat → Word)
    (h : Memory.wf k m = true) : Memory.wf k (Memory.writeWords k m base n f) = true := by
  induction n with
  | zero => exact h
  | succ n ih => rw [Memory.writeWords_succ]; exact Memory.wf_writeWord _ _ _ _ ih

/-- A byte after a word is written. -/
theorem Memory.read_writeWord (k : Space) (m : Memory) (w b : Nat) (v : Word) :
    Memory.read k (Memory.writeWord k m w v) b =
      if b = 2 * w + 1 then v.extractLsb' 8 8 else if b = 2 * w then v.extractLsb' 0 8
      else Memory.read k m b := by
  simp [Memory.writeWord, Memory.read_write]

end Sys2Proof.Machine
end

