-- ==== Sys2Proof/Laws/State.lean ====
section
/-! SUPPORT. One lemma per field per named update of the state, and the laws of the register file. -/

namespace Sys2Proof.Machine

/-! ### setReg -/

@[simp] theorem State.setReg_cfg (s : State) (i : Reg) (v : Byte) : (s.setReg i v).cfg = s.cfg := rfl
@[simp] theorem State.setReg_pc (s : State) (i : Reg) (v : Byte) : (s.setReg i v).pc = s.pc := rfl
@[simp] theorem State.setReg_regs (s : State) (i : Reg) (v : Byte) : (s.setReg i v).regs = s.regs.set i.toNat v := rfl
@[simp] theorem State.setReg_sreg (s : State) (i : Reg) (v : Byte) : (s.setReg i v).sreg = s.sreg := rfl
@[simp] theorem State.setReg_sp (s : State) (i : Reg) (v : Byte) : (s.setReg i v).sp = s.sp := rfl
@[simp] theorem State.setReg_rampx (s : State) (i : Reg) (v : Byte) : (s.setReg i v).rampx = s.rampx := rfl
@[simp] theorem State.setReg_rampy (s : State) (i : Reg) (v : Byte) : (s.setReg i v).rampy = s.rampy := rfl
@[simp] theorem State.setReg_rampz (s : State) (i : Reg) (v : Byte) : (s.setReg i v).rampz = s.rampz := rfl
@[simp] theorem State.setReg_rampd (s : State) (i : Reg) (v : Byte) : (s.setReg i v).rampd = s.rampd := rfl
@[simp] theorem State.setReg_eind (s : State) (i : Reg) (v : Byte) : (s.setReg i v).eind = s.eind := rfl
@[simp] theorem State.setReg_spmcr (s : State) (i : Reg) (v : Byte) : (s.setReg i v).spmcr = s.spmcr := rfl
@[simp] theorem State.setReg_mcucr (s : State) (i : Reg) (v : Byte) : (s.setReg i v).mcucr = s.mcucr := rfl
@[simp] theorem State.setReg_sram (s : State) (i : Reg) (v : Byte) : (s.setReg i v).sram = s.sram := rfl
@[simp] theorem State.setReg_io (s : State) (i : Reg) (v : Byte) : (s.setReg i v).io = s.io := rfl
@[simp] theorem State.setReg_prog (s : State) (i : Reg) (v : Byte) : (s.setReg i v).prog = s.prog := rfl
@[simp] theorem State.setReg_pageBuffer (s : State) (i : Reg) (v : Byte) : (s.setReg i v).pageBuffer = s.pageBuffer := rfl
@[simp] theorem State.setReg_blbits (s : State) (i : Reg) (v : Byte) : (s.setReg i v).blbits = s.blbits := rfl
@[simp] theorem State.setReg_holdoff (s : State) (i : Reg) (v : Byte) : (s.setReg i v).holdoff = s.holdoff := rfl
@[simp] theorem State.setReg_sleeping (s : State) (i : Reg) (v : Byte) : (s.setReg i v).sleeping = s.sleeping := rfl
@[simp] theorem State.setReg_pending (s : State) (i : Reg) (v : Byte) : (s.setReg i v).pending = s.pending := rfl
@[simp] theorem State.setReg_resetDemanded (s : State) (i : Reg) (v : Byte) : (s.setReg i v).resetDemanded = s.resetDemanded := rfl
@[simp] theorem State.setReg_watchdog (s : State) (i : Reg) (v : Byte) : (s.setReg i v).watchdog = s.watchdog := rfl
@[simp] theorem State.setReg_device (s : State) (i : Reg) (v : Byte) : (s.setReg i v).device = s.device := rfl
@[simp] theorem State.setReg_freeCount (s : State) (i : Reg) (v : Byte) : (s.setReg i v).freeCount = s.freeCount := rfl

/-! ### setSreg -/

@[simp] theorem State.setSreg_cfg (s : State) (v : Byte) : (s.setSreg v).cfg = s.cfg := rfl
@[simp] theorem State.setSreg_pc (s : State) (v : Byte) : (s.setSreg v).pc = s.pc := rfl
@[simp] theorem State.setSreg_regs (s : State) (v : Byte) : (s.setSreg v).regs = s.regs := rfl
@[simp] theorem State.setSreg_sreg (s : State) (v : Byte) : (s.setSreg v).sreg = v := rfl
@[simp] theorem State.setSreg_sp (s : State) (v : Byte) : (s.setSreg v).sp = s.sp := rfl
@[simp] theorem State.setSreg_rampx (s : State) (v : Byte) : (s.setSreg v).rampx = s.rampx := rfl
@[simp] theorem State.setSreg_rampy (s : State) (v : Byte) : (s.setSreg v).rampy = s.rampy := rfl
@[simp] theorem State.setSreg_rampz (s : State) (v : Byte) : (s.setSreg v).rampz = s.rampz := rfl
@[simp] theorem State.setSreg_rampd (s : State) (v : Byte) : (s.setSreg v).rampd = s.rampd := rfl
@[simp] theorem State.setSreg_eind (s : State) (v : Byte) : (s.setSreg v).eind = s.eind := rfl
@[simp] theorem State.setSreg_spmcr (s : State) (v : Byte) : (s.setSreg v).spmcr = s.spmcr := rfl
@[simp] theorem State.setSreg_mcucr (s : State) (v : Byte) : (s.setSreg v).mcucr = s.mcucr := rfl
@[simp] theorem State.setSreg_sram (s : State) (v : Byte) : (s.setSreg v).sram = s.sram := rfl
@[simp] theorem State.setSreg_io (s : State) (v : Byte) : (s.setSreg v).io = s.io := rfl
@[simp] theorem State.setSreg_prog (s : State) (v : Byte) : (s.setSreg v).prog = s.prog := rfl
@[simp] theorem State.setSreg_pageBuffer (s : State) (v : Byte) : (s.setSreg v).pageBuffer = s.pageBuffer := rfl
@[simp] theorem State.setSreg_blbits (s : State) (v : Byte) : (s.setSreg v).blbits = s.blbits := rfl
@[simp] theorem State.setSreg_holdoff (s : State) (v : Byte) : (s.setSreg v).holdoff = s.holdoff := rfl
@[simp] theorem State.setSreg_sleeping (s : State) (v : Byte) : (s.setSreg v).sleeping = s.sleeping := rfl
@[simp] theorem State.setSreg_pending (s : State) (v : Byte) : (s.setSreg v).pending = s.pending := rfl
@[simp] theorem State.setSreg_resetDemanded (s : State) (v : Byte) : (s.setSreg v).resetDemanded = s.resetDemanded := rfl
@[simp] theorem State.setSreg_watchdog (s : State) (v : Byte) : (s.setSreg v).watchdog = s.watchdog := rfl
@[simp] theorem State.setSreg_device (s : State) (v : Byte) : (s.setSreg v).device = s.device := rfl
@[simp] theorem State.setSreg_freeCount (s : State) (v : Byte) : (s.setSreg v).freeCount = s.freeCount := rfl

/-! ### setSp -/

@[simp] theorem State.setSp_cfg (s : State) (v : Word) : (s.setSp v).cfg = s.cfg := rfl
@[simp] theorem State.setSp_pc (s : State) (v : Word) : (s.setSp v).pc = s.pc := rfl
@[simp] theorem State.setSp_regs (s : State) (v : Word) : (s.setSp v).regs = s.regs := rfl
@[simp] theorem State.setSp_sreg (s : State) (v : Word) : (s.setSp v).sreg = s.sreg := rfl
@[simp] theorem State.setSp_sp (s : State) (v : Word) : (s.setSp v).sp = v := rfl
@[simp] theorem State.setSp_rampx (s : State) (v : Word) : (s.setSp v).rampx = s.rampx := rfl
@[simp] theorem State.setSp_rampy (s : State) (v : Word) : (s.setSp v).rampy = s.rampy := rfl
@[simp] theorem State.setSp_rampz (s : State) (v : Word) : (s.setSp v).rampz = s.rampz := rfl
@[simp] theorem State.setSp_rampd (s : State) (v : Word) : (s.setSp v).rampd = s.rampd := rfl
@[simp] theorem State.setSp_eind (s : State) (v : Word) : (s.setSp v).eind = s.eind := rfl
@[simp] theorem State.setSp_spmcr (s : State) (v : Word) : (s.setSp v).spmcr = s.spmcr := rfl
@[simp] theorem State.setSp_mcucr (s : State) (v : Word) : (s.setSp v).mcucr = s.mcucr := rfl
@[simp] theorem State.setSp_sram (s : State) (v : Word) : (s.setSp v).sram = s.sram := rfl
@[simp] theorem State.setSp_io (s : State) (v : Word) : (s.setSp v).io = s.io := rfl
@[simp] theorem State.setSp_prog (s : State) (v : Word) : (s.setSp v).prog = s.prog := rfl
@[simp] theorem State.setSp_pageBuffer (s : State) (v : Word) : (s.setSp v).pageBuffer = s.pageBuffer := rfl
@[simp] theorem State.setSp_blbits (s : State) (v : Word) : (s.setSp v).blbits = s.blbits := rfl
@[simp] theorem State.setSp_holdoff (s : State) (v : Word) : (s.setSp v).holdoff = s.holdoff := rfl
@[simp] theorem State.setSp_sleeping (s : State) (v : Word) : (s.setSp v).sleeping = s.sleeping := rfl
@[simp] theorem State.setSp_pending (s : State) (v : Word) : (s.setSp v).pending = s.pending := rfl
@[simp] theorem State.setSp_resetDemanded (s : State) (v : Word) : (s.setSp v).resetDemanded = s.resetDemanded := rfl
@[simp] theorem State.setSp_watchdog (s : State) (v : Word) : (s.setSp v).watchdog = s.watchdog := rfl
@[simp] theorem State.setSp_device (s : State) (v : Word) : (s.setSp v).device = s.device := rfl
@[simp] theorem State.setSp_freeCount (s : State) (v : Word) : (s.setSp v).freeCount = s.freeCount := rfl

/-! ### setPc -/

@[simp] theorem State.setPc_cfg (s : State) (t : PcWord) : (s.setPc t).cfg = s.cfg := rfl
@[simp] theorem State.setPc_pc (s : State) (t : PcWord) : (s.setPc t).pc = t := rfl
@[simp] theorem State.setPc_regs (s : State) (t : PcWord) : (s.setPc t).regs = s.regs := rfl
@[simp] theorem State.setPc_sreg (s : State) (t : PcWord) : (s.setPc t).sreg = s.sreg := rfl
@[simp] theorem State.setPc_sp (s : State) (t : PcWord) : (s.setPc t).sp = s.sp := rfl
@[simp] theorem State.setPc_rampx (s : State) (t : PcWord) : (s.setPc t).rampx = s.rampx := rfl
@[simp] theorem State.setPc_rampy (s : State) (t : PcWord) : (s.setPc t).rampy = s.rampy := rfl
@[simp] theorem State.setPc_rampz (s : State) (t : PcWord) : (s.setPc t).rampz = s.rampz := rfl
@[simp] theorem State.setPc_rampd (s : State) (t : PcWord) : (s.setPc t).rampd = s.rampd := rfl
@[simp] theorem State.setPc_eind (s : State) (t : PcWord) : (s.setPc t).eind = s.eind := rfl
@[simp] theorem State.setPc_spmcr (s : State) (t : PcWord) : (s.setPc t).spmcr = s.spmcr := rfl
@[simp] theorem State.setPc_mcucr (s : State) (t : PcWord) : (s.setPc t).mcucr = s.mcucr := rfl
@[simp] theorem State.setPc_sram (s : State) (t : PcWord) : (s.setPc t).sram = s.sram := rfl
@[simp] theorem State.setPc_io (s : State) (t : PcWord) : (s.setPc t).io = s.io := rfl
@[simp] theorem State.setPc_prog (s : State) (t : PcWord) : (s.setPc t).prog = s.prog := rfl
@[simp] theorem State.setPc_pageBuffer (s : State) (t : PcWord) : (s.setPc t).pageBuffer = s.pageBuffer := rfl
@[simp] theorem State.setPc_blbits (s : State) (t : PcWord) : (s.setPc t).blbits = s.blbits := rfl
@[simp] theorem State.setPc_holdoff (s : State) (t : PcWord) : (s.setPc t).holdoff = s.holdoff := rfl
@[simp] theorem State.setPc_sleeping (s : State) (t : PcWord) : (s.setPc t).sleeping = s.sleeping := rfl
@[simp] theorem State.setPc_pending (s : State) (t : PcWord) : (s.setPc t).pending = s.pending := rfl
@[simp] theorem State.setPc_resetDemanded (s : State) (t : PcWord) : (s.setPc t).resetDemanded = s.resetDemanded := rfl
@[simp] theorem State.setPc_watchdog (s : State) (t : PcWord) : (s.setPc t).watchdog = s.watchdog := rfl
@[simp] theorem State.setPc_device (s : State) (t : PcWord) : (s.setPc t).device = s.device := rfl
@[simp] theorem State.setPc_freeCount (s : State) (t : PcWord) : (s.setPc t).freeCount = s.freeCount := rfl

/-! ### advance -/

@[simp] theorem State.advance_cfg (s : State) (n : Nat) : (s.advance n).cfg = s.cfg := rfl
@[simp] theorem State.advance_pc (s : State) (n : Nat) : (s.advance n).pc = s.pcPlus n := rfl
@[simp] theorem State.advance_regs (s : State) (n : Nat) : (s.advance n).regs = s.regs := rfl
@[simp] theorem State.advance_sreg (s : State) (n : Nat) : (s.advance n).sreg = s.sreg := rfl
@[simp] theorem State.advance_sp (s : State) (n : Nat) : (s.advance n).sp = s.sp := rfl
@[simp] theorem State.advance_rampx (s : State) (n : Nat) : (s.advance n).rampx = s.rampx := rfl
@[simp] theorem State.advance_rampy (s : State) (n : Nat) : (s.advance n).rampy = s.rampy := rfl
@[simp] theorem State.advance_rampz (s : State) (n : Nat) : (s.advance n).rampz = s.rampz := rfl
@[simp] theorem State.advance_rampd (s : State) (n : Nat) : (s.advance n).rampd = s.rampd := rfl
@[simp] theorem State.advance_eind (s : State) (n : Nat) : (s.advance n).eind = s.eind := rfl
@[simp] theorem State.advance_spmcr (s : State) (n : Nat) : (s.advance n).spmcr = s.spmcr := rfl
@[simp] theorem State.advance_mcucr (s : State) (n : Nat) : (s.advance n).mcucr = s.mcucr := rfl
@[simp] theorem State.advance_sram (s : State) (n : Nat) : (s.advance n).sram = s.sram := rfl
@[simp] theorem State.advance_io (s : State) (n : Nat) : (s.advance n).io = s.io := rfl
@[simp] theorem State.advance_prog (s : State) (n : Nat) : (s.advance n).prog = s.prog := rfl
@[simp] theorem State.advance_pageBuffer (s : State) (n : Nat) : (s.advance n).pageBuffer = s.pageBuffer := rfl
@[simp] theorem State.advance_blbits (s : State) (n : Nat) : (s.advance n).blbits = s.blbits := rfl
@[simp] theorem State.advance_holdoff (s : State) (n : Nat) : (s.advance n).holdoff = s.holdoff := rfl
@[simp] theorem State.advance_sleeping (s : State) (n : Nat) : (s.advance n).sleeping = s.sleeping := rfl
@[simp] theorem State.advance_pending (s : State) (n : Nat) : (s.advance n).pending = s.pending := rfl
@[simp] theorem State.advance_resetDemanded (s : State) (n : Nat) : (s.advance n).resetDemanded = s.resetDemanded := rfl
@[simp] theorem State.advance_watchdog (s : State) (n : Nat) : (s.advance n).watchdog = s.watchdog := rfl
@[simp] theorem State.advance_device (s : State) (n : Nat) : (s.advance n).device = s.device := rfl
@[simp] theorem State.advance_freeCount (s : State) (n : Nat) : (s.advance n).freeCount = s.freeCount := rfl

/-! ### setPair -/

@[simp] theorem State.setPair_cfg (s : State) (i : Reg) (v : Word) : (s.setPair i v).cfg = s.cfg := rfl
@[simp] theorem State.setPair_pc (s : State) (i : Reg) (v : Word) : (s.setPair i v).pc = s.pc := rfl
@[simp] theorem State.setPair_sreg (s : State) (i : Reg) (v : Word) : (s.setPair i v).sreg = s.sreg := rfl
@[simp] theorem State.setPair_sp (s : State) (i : Reg) (v : Word) : (s.setPair i v).sp = s.sp := rfl
@[simp] theorem State.setPair_rampx (s : State) (i : Reg) (v : Word) : (s.setPair i v).rampx = s.rampx := rfl
@[simp] theorem State.setPair_rampy (s : State) (i : Reg) (v : Word) : (s.setPair i v).rampy = s.rampy := rfl
@[simp] theorem State.setPair_rampz (s : State) (i : Reg) (v : Word) : (s.setPair i v).rampz = s.rampz := rfl
@[simp] theorem State.setPair_rampd (s : State) (i : Reg) (v : Word) : (s.setPair i v).rampd = s.rampd := rfl
@[simp] theorem State.setPair_eind (s : State) (i : Reg) (v : Word) : (s.setPair i v).eind = s.eind := rfl
@[simp] theorem State.setPair_spmcr (s : State) (i : Reg) (v : Word) : (s.setPair i v).spmcr = s.spmcr := rfl
@[simp] theorem State.setPair_mcucr (s : State) (i : Reg) (v : Word) : (s.setPair i v).mcucr = s.mcucr := rfl
@[simp] theorem State.setPair_sram (s : State) (i : Reg) (v : Word) : (s.setPair i v).sram = s.sram := rfl
@[simp] theorem State.setPair_io (s : State) (i : Reg) (v : Word) : (s.setPair i v).io = s.io := rfl
@[simp] theorem State.setPair_prog (s : State) (i : Reg) (v : Word) : (s.setPair i v).prog = s.prog := rfl
@[simp] theorem State.setPair_pageBuffer (s : State) (i : Reg) (v : Word) : (s.setPair i v).pageBuffer = s.pageBuffer := rfl
@[simp] theorem State.setPair_blbits (s : State) (i : Reg) (v : Word) : (s.setPair i v).blbits = s.blbits := rfl
@[simp] theorem State.setPair_holdoff (s : State) (i : Reg) (v : Word) : (s.setPair i v).holdoff = s.holdoff := rfl
@[simp] theorem State.setPair_sleeping (s : State) (i : Reg) (v : Word) : (s.setPair i v).sleeping = s.sleeping := rfl
@[simp] theorem State.setPair_pending (s : State) (i : Reg) (v : Word) : (s.setPair i v).pending = s.pending := rfl
@[simp] theorem State.setPair_resetDemanded (s : State) (i : Reg) (v : Word) : (s.setPair i v).resetDemanded = s.resetDemanded := rfl
@[simp] theorem State.setPair_watchdog (s : State) (i : Reg) (v : Word) : (s.setPair i v).watchdog = s.watchdog := rfl
@[simp] theorem State.setPair_device (s : State) (i : Reg) (v : Word) : (s.setPair i v).device = s.device := rfl
@[simp] theorem State.setPair_freeCount (s : State) (i : Reg) (v : Word) : (s.setPair i v).freeCount = s.freeCount := rfl

/-! ### setDevicePart -/

@[simp] theorem State.setDevicePart_cfg (s : State) (p : DevicePart) : (s.setDevicePart p).cfg = s.cfg := rfl
@[simp] theorem State.setDevicePart_pc (s : State) (p : DevicePart) : (s.setDevicePart p).pc = s.pc := rfl
@[simp] theorem State.setDevicePart_regs (s : State) (p : DevicePart) : (s.setDevicePart p).regs = s.regs := rfl
@[simp] theorem State.setDevicePart_sreg (s : State) (p : DevicePart) : (s.setDevicePart p).sreg = s.sreg := rfl
@[simp] theorem State.setDevicePart_sp (s : State) (p : DevicePart) : (s.setDevicePart p).sp = s.sp := rfl
@[simp] theorem State.setDevicePart_rampx (s : State) (p : DevicePart) : (s.setDevicePart p).rampx = s.rampx := rfl
@[simp] theorem State.setDevicePart_rampy (s : State) (p : DevicePart) : (s.setDevicePart p).rampy = s.rampy := rfl
@[simp] theorem State.setDevicePart_rampz (s : State) (p : DevicePart) : (s.setDevicePart p).rampz = s.rampz := rfl
@[simp] theorem State.setDevicePart_rampd (s : State) (p : DevicePart) : (s.setDevicePart p).rampd = s.rampd := rfl
@[simp] theorem State.setDevicePart_eind (s : State) (p : DevicePart) : (s.setDevicePart p).eind = s.eind := rfl
@[simp] theorem State.setDevicePart_spmcr (s : State) (p : DevicePart) : (s.setDevicePart p).spmcr = s.spmcr := rfl
@[simp] theorem State.setDevicePart_mcucr (s : State) (p : DevicePart) : (s.setDevicePart p).mcucr = s.mcucr := rfl
@[simp] theorem State.setDevicePart_sram (s : State) (p : DevicePart) : (s.setDevicePart p).sram = s.sram := rfl
@[simp] theorem State.setDevicePart_io (s : State) (p : DevicePart) : (s.setDevicePart p).io = s.io := rfl
@[simp] theorem State.setDevicePart_prog (s : State) (p : DevicePart) : (s.setDevicePart p).prog = s.prog := rfl
@[simp] theorem State.setDevicePart_pageBuffer (s : State) (p : DevicePart) : (s.setDevicePart p).pageBuffer = s.pageBuffer := rfl
@[simp] theorem State.setDevicePart_blbits (s : State) (p : DevicePart) : (s.setDevicePart p).blbits = s.blbits := rfl
@[simp] theorem State.setDevicePart_holdoff (s : State) (p : DevicePart) : (s.setDevicePart p).holdoff = s.holdoff := rfl
@[simp] theorem State.setDevicePart_sleeping (s : State) (p : DevicePart) : (s.setDevicePart p).sleeping = s.sleeping := rfl
@[simp] theorem State.setDevicePart_pending (s : State) (p : DevicePart) : (s.setDevicePart p).pending = p.pending := rfl
@[simp] theorem State.setDevicePart_resetDemanded (s : State) (p : DevicePart) : (s.setDevicePart p).resetDemanded = p.resetDemanded := rfl
@[simp] theorem State.setDevicePart_watchdog (s : State) (p : DevicePart) : (s.setDevicePart p).watchdog = p.watchdog := rfl
@[simp] theorem State.setDevicePart_device (s : State) (p : DevicePart) : (s.setDevicePart p).device = p.inner := rfl
@[simp] theorem State.setDevicePart_freeCount (s : State) (p : DevicePart) : (s.setDevicePart p).freeCount = s.freeCount + 1 := rfl

/-! ### Reading registers after an update -/

@[simp] theorem State.setSreg_reg (s : State) (v : Byte) (j : Reg) : (s.setSreg v).reg j = s.reg j := rfl
@[simp] theorem State.setSp_reg (s : State) (v : Word) (j : Reg) : (s.setSp v).reg j = s.reg j := rfl
@[simp] theorem State.setPc_reg (s : State) (t : PcWord) (j : Reg) : (s.setPc t).reg j = s.reg j := rfl
@[simp] theorem State.advance_reg (s : State) (n : Nat) (j : Reg) : (s.advance n).reg j = s.reg j := rfl

theorem State.setReg_reg (s : State) (i j : Reg) (v : Byte) :
    (s.setReg i v).reg j = if j = i then v else s.reg j := by
  simp only [State.reg, State.setReg, Vector.getElem_set, BitVec.toNat_inj]
  by_cases h : i = j
  · simp [h]
  · have h' : ¬ j = i := fun e => h e.symm
    simp [h, h']

@[simp] theorem State.setReg_reg_same (s : State) (i : Reg) (v : Byte) : (s.setReg i v).reg i = v := by
  simp [State.setReg_reg]

theorem State.setReg_reg_ne (s : State) {i j : Reg} (v : Byte) (h : j ≠ i) :
    (s.setReg i v).reg j = s.reg j := by
  simp [State.setReg_reg, h]

/-- Register numbers: a register is not the one after it. -/
theorem reg_succ_ne (i : Reg) : i + 1 ≠ i := by revert i; decide

theorem State.setPair_reg (s : State) (i j : Reg) (v : Word) :
    (s.setPair i v).reg j =
      if j = i + 1 then v.extractLsb' 8 8 else if j = i then v.extractLsb' 0 8 else s.reg j := by
  simp [State.setPair, State.setReg_reg]

@[simp] theorem State.setSreg_pair (s : State) (v : Byte) (j : Reg) : (s.setSreg v).pair j = s.pair j := rfl
@[simp] theorem State.setSp_pair (s : State) (v : Word) (j : Reg) : (s.setSp v).pair j = s.pair j := rfl
@[simp] theorem State.setPc_pair (s : State) (t : PcWord) (j : Reg) : (s.setPc t).pair j = s.pair j := rfl
@[simp] theorem State.advance_pair (s : State) (n : Nat) (j : Reg) : (s.advance n).pair j = s.pair j := rfl

/-- A pair written reads back. -/
@[simp] theorem State.setPair_pair (s : State) (i : Reg) (v : Word) : (s.setPair i v).pair i = v := by
  simp only [State.pair, State.setPair_reg, if_true, (reg_succ_ne i).symm, if_false]
  ext k hk
  simp only [BitVec.getElem_append, BitVec.getElem_extractLsb']
  split
  · simp [BitVec.getLsbD_eq_getElem hk]
  · have : 8 + (k - 8) = k := by omega
    simp [this, BitVec.getLsbD_eq_getElem hk]

/-! ### The device's part after an update -/

@[simp] theorem State.setReg_devicePart (s : State) (i : Reg) (v : Byte) : (s.setReg i v).devicePart = s.devicePart := rfl
@[simp] theorem State.setPair_devicePart (s : State) (i : Reg) (v : Word) : (s.setPair i v).devicePart = s.devicePart := rfl
@[simp] theorem State.setSreg_devicePart (s : State) (v : Byte) : (s.setSreg v).devicePart = s.devicePart := rfl
@[simp] theorem State.setSp_devicePart (s : State) (v : Word) : (s.setSp v).devicePart = s.devicePart := rfl
@[simp] theorem State.setPc_devicePart (s : State) (t : PcWord) : (s.setPc t).devicePart = s.devicePart := rfl
@[simp] theorem State.advance_devicePart (s : State) (n : Nat) : (s.advance n).devicePart = s.devicePart := rfl
@[simp] theorem State.setDevicePart_devicePart (s : State) (p : DevicePart) : (s.setDevicePart p).devicePart = p := rfl
@[simp] theorem State.setDevicePart_reg (s : State) (p : DevicePart) (j : Reg) : (s.setDevicePart p).reg j = s.reg j := rfl
@[simp] theorem State.setDevicePart_pair (s : State) (p : DevicePart) (j : Reg) : (s.setDevicePart p).pair j = s.pair j := rfl
@[simp] theorem State.setDevicePart_flag (s : State) (p : DevicePart) (f : Flag) : (s.setDevicePart p).flag f = s.flag f := rfl

/-! ### Flags after an update -/

@[simp] theorem State.setReg_flag (s : State) (i : Reg) (v : Byte) (f : Flag) : (s.setReg i v).flag f = s.flag f := rfl
@[simp] theorem State.setPair_flag (s : State) (i : Reg) (v : Word) (f : Flag) : (s.setPair i v).flag f = s.flag f := rfl
@[simp] theorem State.setSp_flag (s : State) (v : Word) (f : Flag) : (s.setSp v).flag f = s.flag f := rfl
@[simp] theorem State.setPc_flag (s : State) (t : PcWord) (f : Flag) : (s.setPc t).flag f = s.flag f := rfl
@[simp] theorem State.advance_flag (s : State) (n : Nat) (f : Flag) : (s.advance n).flag f = s.flag f := rfl
@[simp] theorem State.setSreg_flag (s : State) (v : Byte) (f : Flag) : (s.setSreg v).flag f = getFlag v f := rfl

end Sys2Proof.Machine
end

