-- ==== Sys2Proof/Laws/Ops.lean ====
section
/-! SUPPORT. For each shared operation, one lemma that says everything it can do when it answers. -/

namespace Sys2Proof.Machine

/-! ### Going on -/

@[simp] theorem andThen_next {α β : Type} (x : α) (f : α → Result β) : andThen (.next x) f = f x := rfl
@[simp] theorem andThen_fault {α β : Type} (e : Fault) (f : α → Result β) :
    andThen (.fault e) f = .fault e := rfl
@[simp] theorem andThen_refused {α β : Type} (e : Refusal) (f : α → Result β) :
    andThen (.refused e) f = .refused e := rfl

/-- An operation and what follows it answer exactly when both do. -/
theorem andThen_eq_next {α β : Type} {r : Result α} {f : α → Result β} {y : β} :
    andThen r f = .next y ↔ ∃ x, r = .next x ∧ f x = .next y := by
  cases r <;> simp [andThen]

/-! ### Numbers of program counter, RAMP and stack pointer bits -/

theorem wrapPc_lt (cfg : Config) (n : Nat) : (wrapPc cfg n).toNat < 2 ^ cfg.pcBits := by
  have h : 0 < 2 ^ cfg.pcBits := by positivity
  simp only [wrapPc, BitVec.toNat_ofNat]
  exact lt_of_le_of_lt (Nat.mod_le _ _) (Nat.mod_lt _ h)

theorem relTarget_lt (s : State) (k : Int) : (s.relTarget k).toNat < 2 ^ s.cfg.pcBits := by
  have h : (0 : Int) < (2 ^ s.cfg.pcBits : Nat) := by positivity
  have h1 := Int.emod_lt_of_pos ((s.pc.toNat : Int) + k + 1) h
  have h0 := Int.emod_nonneg ((s.pc.toNat : Int) + k + 1) h.ne'
  simp only [State.relTarget, BitVec.toNat_ofNat]
  exact lt_of_le_of_lt (Nat.mod_le _ _) (by omega)

/-- A program counter that fits is left alone. -/
theorem wrapPc_of_lt (cfg : Config) (t : PcWord) (h : t.toNat < 2 ^ cfg.pcBits) :
    wrapPc cfg t.toNat = t := by
  simp [wrapPc, Nat.mod_eq_of_lt h]

theorem rampMask_lt (cfg : Config) (v : Byte) : (rampMask cfg v).toNat < 2 ^ cfg.rampBits := by
  have h : 0 < 2 ^ cfg.rampBits := by positivity
  simp only [rampMask, BitVec.toNat_ofNat]
  exact lt_of_le_of_lt (Nat.mod_le _ _) (Nat.mod_lt _ h)

/-! ### The I/O space -/

/-- A read of an I/O location changes nothing but, at one of the device's own, the device's part. -/
theorem ioRead_state (s : State) (A : BitVec 6) :
    (ioOwner s.cfg A ≠ .device ∧ (ioRead s A).2 = s) ∨
    (ioOwner s.cfg A = .device ∧
      (ioRead s A).2 = s.setDevicePart (Config.deviceRead s.freeCount A s.devicePart).2) := by
  unfold ioRead
  split <;> simp_all

/-- Everything a write of an I/O location can do. -/
theorem ioWrite_cases (s : State) (A : BitVec 6) (v : Byte) :
    ioWrite s A v = s.setSreg v ∨
    ioWrite s A v = s.setSp (s.sp.extractLsb' 8 8 ++ v) ∨
    (s.cfg.spWidth = .bits16 ∧ ioWrite s A v = s.setSp (v ++ s.sp.extractLsb' 0 8)) ∨
    ioWrite s A v = { s with rampx := rampMask s.cfg v } ∨
    ioWrite s A v = { s with rampy := rampMask s.cfg v } ∨
    ioWrite s A v = { s with rampz := rampMask s.cfg v } ∨
    ioWrite s A v = { s with rampd := rampMask s.cfg v } ∨
    ioWrite s A v = { s with eind := v } ∨
    ioWrite s A v = { s with spmcr := v } ∨
    ioWrite s A v = { s with mcucr := v } ∨
    (ioOwner s.cfg A = .device ∧ ioWrite s A v = s.setDevicePart (Config.deviceWrite s.freeCount A v s.devicePart)) ∨
    ioWrite s A v = { s with io := Memory.write .io s.io A.toNat v } := by
  have hsph : ioOwner s.cfg A = .sph → s.cfg.spWidth = .bits16 := by
    unfold ioOwner
    intro h
    split at h
    · cases h
    · split at h
      · cases h
      · split at h
        · rename_i hc; exact hc.1
        · repeat' (split at h; · cases h)
          cases h
  unfold ioWrite
  split <;> simp_all

/-- A write of an I/O location changes no register, no memory but the I/O locations, and not the program counter; it changes
the device's part at one of the device's own locations only. -/
theorem ioWrite_frame (s : State) (A : BitVec 6) (v : Byte) :
    (ioWrite s A v).cfg = s.cfg ∧ (ioWrite s A v).pc = s.pc ∧ (ioWrite s A v).regs = s.regs ∧
    (ioWrite s A v).sram = s.sram ∧ (ioWrite s A v).prog = s.prog ∧
    (ioWrite s A v).pageBuffer = s.pageBuffer ∧ (ioWrite s A v).sleeping = s.sleeping ∧
    (ioWrite s A v).holdoff = s.holdoff ∧
    (ioOwner s.cfg A ≠ .device → (ioWrite s A v).devicePart = s.devicePart) := by
  unfold ioWrite
  split <;> simp_all [State.devicePart]

/-- Everything the setting of one bit of an I/O location can do (R66). -/
theorem ioSetBit_cases (s : State) (A : BitVec 6) (b : BitVec 3) (v : Bool) :
    (hasOwnSetBit s.cfg A = true ∧
      ioSetBit s A b v = s.setDevicePart (Config.deviceSetBit s.freeCount A b v s.devicePart)) ∨
    (hasOwnSetBit s.cfg A = false ∧ ioSetBit s A b v = ioWrite (ioRead s A).2 A (setBit (ioRead s A).1 b v)) := by
  unfold ioSetBit
  cases h : hasOwnSetBit s.cfg A <;> simp

/-! ### The data space -/

/-- A data read that answers changes nothing but, at one of the device's own I/O locations, the device's part, and had an address
that exists. -/
theorem memRead_next {s t : State} {a : Nat} {b : Byte} (h : memRead s a = .next (b, t)) :
    locate s.cfg a ≠ .unmapped ∧ (t = s ∨ ∃ p, t = s.setDevicePart p) := by
  unfold memRead at h
  split at h
  · rename_i hl; cases h; simp [hl]
  · rename_i A hl
    have h2 : (ioRead s A).2 = t := by injection h with h; rw [h]
    rcases ioRead_state s A with ⟨-, e⟩ | ⟨-, e⟩
    · simp [hl, ← h2, e]
    · exact ⟨by simp [hl], .inr ⟨_, h2.symm.trans e⟩⟩
  · rename_i hl; cases h; simp [hl]
  · cases h

/-- Everything a data write that answers can do. -/
theorem memWrite_next {s t : State} {a : Nat} {v : Byte} (h : memWrite s a v = .next t) :
    (∃ i, locate s.cfg a = .reg i ∧ t = s.setReg i v) ∨
    (∃ A, locate s.cfg a = .io A ∧ t = ioWrite s A v) ∨
    (locate s.cfg a = .sram ∧ t = { s with sram := Memory.write .sram s.sram a v }) := by
  unfold memWrite at h
  split at h <;> simp_all

/-- An SRAM address lies between SRAM_BASE and RAMEND. -/
theorem locate_sram {cfg : Config} {a : Nat} (h : locate cfg a = .sram) :
    cfg.hasSram = true ∧ cfg.sramBase ≤ a ∧ a ≤ cfg.ramEnd := by
  unfold locate at h
  split at h
  · cases h
  · split at h
    · cases h
    · split at h
      · rename_i hc; simpa using hc
      · cases h

/-! ### The stack -/

/-- Everything a push that answers can do: a data write at SP, not at SP's own address, then SP one lower. -/
theorem push8_next {s t : State} {v : Byte} (h : push8 s v = .next t) :
    stackClash s.cfg s.sp.toNat = false ∧
    ∃ u, memWrite s s.sp.toNat v = .next u ∧ t = u.setSp (wrapSp s.cfg (s.sp - 1)) := by
  unfold push8 at h
  split at h
  · cases h
  · rename_i hc
    obtain ⟨u, hu, e⟩ := andThen_eq_next.1 h
    injection e with e
    exact ⟨by simpa using hc, u, hu, e.symm⟩

/-- Everything a pop that answers can do: SP one higher, then a data read there, not at SP's own address. -/
theorem pop8_next {s t : State} {b : Byte} (h : pop8 s = .next (b, t)) :
    stackClash s.cfg (wrapSp s.cfg (s.sp + 1)).toNat = false ∧
    memRead (s.setSp (wrapSp s.cfg (s.sp + 1))) (wrapSp s.cfg (s.sp + 1)).toNat = .next (b, t) := by
  unfold pop8 at h
  split at h
  · cases h
  · rename_i hc
    exact ⟨by simpa using hc, h⟩

/-- A pushed return address is its pushes, in order (R72). -/
theorem pushPc_next {s t : State} {a : PcWord} (h : pushPc s a = .next t) :
    ∃ s1 s2, push8 s (pcByte0 (wrapPc s.cfg a.toNat)) = .next s1 ∧
      push8 s1 (pcByte1 (wrapPc s.cfg a.toNat)) = .next s2 ∧
      (if s.cfg.pcBytes = 3 then push8 s2 (pcByte2 (wrapPc s.cfg a.toNat)) else .next s2) = .next t := by
  obtain ⟨s1, h1, h⟩ := andThen_eq_next.1 h
  obtain ⟨s2, h2, h⟩ := andThen_eq_next.1 h
  exact ⟨s1, s2, h1, h2, h⟩

/-- A popped return address is its pops, in order (R73). -/
theorem popPc_next {s t : State} {a : PcWord} (h : popPc s = .next (a, t)) :
    ∃ h2 h1 l, (if s.cfg.pcBytes = 3 then pop8 s else .next (0, s)) = .next h2 ∧ pop8 h2.2 = .next h1 ∧
      pop8 h1.2 = .next l ∧ a = wrapPc s.cfg (h2.1 ++ h1.1 ++ l.1).toNat ∧ t = l.2 := by
  obtain ⟨h2, e2, h⟩ := andThen_eq_next.1 h
  obtain ⟨h1, e1, h⟩ := andThen_eq_next.1 h
  obtain ⟨l, e0, h⟩ := andThen_eq_next.1 h
  injection h with h
  injection h with ha ht
  exact ⟨h2, h1, l, e2, e1, e0, ha.symm, ht.symm⟩

/-! ### Pointers -/

/-- Everything a pointer write can do, by data-space class (R75). -/
theorem ptrSet_cases (s : State) (p : Ptr) (v : Nat) :
    (s.cfg.dataClass = .le256 ∧ ptrSet s p v = s.setReg p.lo (BitVec.ofNat 8 v)) ∨
    (s.cfg.dataClass = .le64K ∧ ptrSet s p v = s.setPair p.lo (BitVec.ofNat 16 v)) ∨
    (s.cfg.dataClass = .gt64K ∧
      ptrSet s p v = p.setRamp (s.setPair p.lo (BitVec.ofNat 16 v)) (BitVec.ofNat 8 (v / 2 ^ 16))) := by
  unfold ptrSet
  cases h : s.cfg.dataClass <;> simp

/-- A form that updates its pointer goes on only past both checks (R87, R229). -/
theorem guarded_next {s t : State} {p : Ptr} {d : Reg} {i : Instr} {a : Nat} {go : Result State}
    (h : guarded s p d i a go = .next t) :
    isPtrReg p d = false ∧ ptrClash s.cfg p a = false ∧ go = .next t := by
  unfold guarded at h
  split at h
  · cases h
  · split at h
    · cases h
    · simp_all

/-! ### Skips, program memory, interrupts -/

/-- A program memory read that answers lies in program memory (R67). -/
theorem progWord_next {s : State} {a : PcWord} {w : Word} (h : progWord s a = .next w) :
    a.toNat < s.cfg.flashWords ∧ w = Memory.readWord .prog s.prog a.toNat := by
  unfold progWord at h
  split at h
  · rename_i hc; injection h with h; exact ⟨hc, h.symm⟩
  · cases h

/-- A skip instruction that answers has moved the program counter by one, two or three words and done nothing else. -/
theorem skipIf_next {c : Bool} {s t : State} (h : skipIf c s = .next t) :
    (c = false ∧ t = s.advance 1) ∨ (c = true ∧ ∃ n, skipLen s = .next n ∧ t = s.advance n) := by
  unfold skipIf at h
  split at h
  · rename_i hc
    obtain ⟨n, hn, h⟩ := andThen_eq_next.1 h
    injection h with h
    exact .inr ⟨hc, n, hn, h.symm⟩
  · rename_i hc
    injection h with h
    exact .inl ⟨by simpa using hc, h.symm⟩

/-- Taking an interrupt: a pushed program counter, I cleared, the request acknowledged, the vector (R337). -/
theorem takeInterrupt_next {n : Nat} {s t : State} (h : takeInterrupt n s = .next t) :
    ∃ u, pushPc s s.pc = .next u ∧
      t = { u with sreg := setFlag u.sreg .I false, pending := u.pending.filter (fun m => m != n),
                   sleeping := false, pc := vector s.cfg n } := by
  obtain ⟨u, hu, e⟩ := andThen_eq_next.1 h
  injection e with e
  exact ⟨u, hu, e.symm⟩

end Sys2Proof.Machine
end

