-- ==== Sys2Proof/Laws/Frame.lean ====
section
/-! SUPPORT. The frames of the updates the register instructions end in. -/

namespace Sys2Proof.Machine

theorem SameSpecial.refl (s : State) : SameSpecial s s := by simp [SameSpecial]

theorem SameMemory.refl (s : State) : SameMemory s s := by simp [SameMemory]

theorem SameHidden.refl (s : State) : SameHidden s s := by simp [SameHidden]

/-- An update of general registers, SREG and the program counter changes the registers and the flags that differ. -/
theorem onlyChanged_update (s : State) (rs : Vector Byte 32) (x : Byte) (p : PcWord) {regs : List Reg} {flags : List Flag}
    (hr : SameRegsBut regs s { s with regs := rs }) (hf : ∀ f, f ∉ flags → getFlag x f = s.flag f) :
    OnlyChanged regs flags s { s with regs := rs, sreg := x, pc := p } :=
  ⟨hr, hf, rfl, SameSpecial.refl s, SameMemory.refl s, SameHidden.refl s, rfl⟩

/-- Writing one register and SREG changes that register and the flags that differ. -/
theorem onlyChanged_setReg_setSreg (s : State) (d : Reg) (r x : Byte) (n : Nat) (flags : List Flag)
    (h : ∀ f, f ∉ flags → getFlag x f = s.flag f) :
    OnlyChanged [d] flags s (((s.setReg d r).setSreg x).advance n) :=
  onlyChanged_update s _ x _ (fun _ hi => State.setReg_reg_ne s r (by simpa using hi)) h

/-- Writing a register pair and SREG changes that pair and the flags that differ. -/
theorem onlyChanged_setPair_setSreg (s : State) (d : Reg) (r : Word) (x : Byte) (n : Nat) (flags : List Flag)
    (h : ∀ f, f ∉ flags → getFlag x f = s.flag f) :
    OnlyChanged [d, d + 1] flags s (((s.setPair d r).setSreg x).advance n) := by
  refine onlyChanged_update s _ x _ (fun i hi => ?_) h
  simp only [List.mem_cons, List.not_mem_nil, or_false, not_or] at hi
  exact (State.setPair_reg s d i r).trans (by rw [if_neg hi.2, if_neg hi.1])

/-- Writing SREG changes the flags that differ. -/
theorem onlyChanged_setSreg (s : State) (x : Byte) (n : Nat) (flags : List Flag)
    (h : ∀ f, f ∉ flags → getFlag x f = s.flag f) : OnlyChanged [] flags s ((s.setSreg x).advance n) :=
  onlyChanged_update s _ x _ (fun _ _ => rfl) h

/-- Writing one register changes that register. -/
theorem onlyChanged_setReg (s : State) (d : Reg) (r : Byte) (n : Nat) :
    OnlyChanged [d] [] s ((s.setReg d r).advance n) :=
  onlyChanged_update s _ s.sreg _ (fun _ hi => State.setReg_reg_ne s r (by simpa using hi)) fun _ _ => rfl

/-- Moving the program counter changes nothing else. -/
theorem onlyChanged_setPc (s : State) (t : PcWord) : OnlyChanged [] [] s (s.setPc t) :=
  onlyChanged_update s _ s.sreg t (fun _ _ => rfl) fun _ _ => rfl

end Sys2Proof.Machine
end

