-- ==== Sys2Proof/Laws/Operands.lean ====
section
/-! SUPPORT. For the operand forms, the loads and stores over them, the SPM operations, calls and returns: one lemma each that says
everything the operation can do when it answers. -/

namespace Sys2Proof.Machine

/-! ### Loads and stores -/

/-- A load that answers: a data read, the register written, the program counter moved. -/
theorem loadByte_next {s t : State} {d : Reg} {a n : Nat} (h : loadByte s d a n = .next t) :
    ∃ b u, memRead s a = .next (b, u) ∧ t = (u.setReg d b).advance n := by
  obtain ⟨r, hr, e⟩ := andThen_eq_next.1 h
  injection e with e
  exact ⟨r.1, r.2, hr, e.symm⟩

/-- A store that answers: a data write, the program counter moved. -/
theorem storeByte_next {s t : State} {a n : Nat} {v : Byte} (h : storeByte s a v n = .next t) :
    ∃ u, memWrite s a v = .next u ∧ t = u.advance n := by
  obtain ⟨u, hu, e⟩ := andThen_eq_next.1 h
  injection e with e
  exact ⟨u, hu, e.symm⟩

/-- A load with post-increment that answers has passed both checks, read at the pointer, then written register and pointer. -/
theorem loadInc_next {s t : State} {p : Ptr} {d : Reg} {i : Instr} (h : loadInc s p d i = .next t) :
    isPtrReg p d = false ∧ ptrClash s.cfg p (ptrGet s p) = false ∧
    ∃ b u, memRead s (ptrGet s p) = .next (b, u) ∧
      t = (ptrSet (u.setReg d b) p (ptrSucc s.cfg (ptrGet s p))).advance 1 := by
  obtain ⟨h1, h2, h3⟩ := guarded_next h
  obtain ⟨r, hr, e⟩ := andThen_eq_next.1 h3
  injection e with e
  exact ⟨h1, h2, r.1, r.2, hr, e.symm⟩

/-- A load with pre-decrement that answers has passed both checks, written the pointer, then read at it. -/
theorem loadDec_next {s t : State} {p : Ptr} {d : Reg} {i : Instr} (h : loadDec s p d i = .next t) :
    isPtrReg p d = false ∧ ptrClash s.cfg p (eaDec s p) = false ∧
    ∃ b u, memRead (ptrSet s p (eaDec s p)) (eaDec s p) = .next (b, u) ∧ t = (u.setReg d b).advance 1 := by
  obtain ⟨h1, h2, h3⟩ := guarded_next h
  exact ⟨h1, h2, loadByte_next h3⟩

/-- A store with post-increment that answers has passed both checks, written at the pointer, then written the pointer. -/
theorem storeInc_next {s t : State} {p : Ptr} {r : Reg} {i : Instr} (h : storeInc s p r i = .next t) :
    isPtrReg p r = false ∧ ptrClash s.cfg p (ptrGet s p) = false ∧
    ∃ u, memWrite s (ptrGet s p) (s.reg r) = .next u ∧
      t = (ptrSet u p (ptrSucc s.cfg (ptrGet s p))).advance 1 := by
  obtain ⟨h1, h2, h3⟩ := guarded_next h
  obtain ⟨u, hu, e⟩ := andThen_eq_next.1 h3
  injection e with e
  exact ⟨h1, h2, u, hu, e.symm⟩

/-- A store with pre-decrement that answers has passed both checks, written the pointer, then at it. -/
theorem storeDec_next {s t : State} {p : Ptr} {r : Reg} {i : Instr} (h : storeDec s p r i = .next t) :
    isPtrReg p r = false ∧ ptrClash s.cfg p (eaDec s p) = false ∧
    ∃ u, memWrite (ptrSet s p (eaDec s p)) (eaDec s p) (s.reg r) = .next u ∧ t = u.advance 1 := by
  obtain ⟨h1, h2, h3⟩ := guarded_next h
  exact ⟨h1, h2, storeByte_next h3⟩

/-! ### Program memory -/

/-- A program memory byte that is read lies in program memory (R68). -/
theorem progByte_next {s : State} {b : Nat} {v : Byte} (h : progByte s b = .next v) :
    b / 2 < s.cfg.flashWords ∧ v = Memory.read .prog s.prog b := by
  unfold progByte at h
  split at h
  · rename_i hc; injection h with h; exact ⟨hc, h.symm⟩
  · cases h

/-- A load from program memory that answers. -/
theorem loadProgram_next {s t : State} {d : Reg} {b : Nat} (h : loadProgram s d b = .next t) :
    b / 2 < s.cfg.flashWords ∧ t = (s.setReg d (Memory.read .prog s.prog b)).advance 1 := by
  obtain ⟨v, hv, e⟩ := andThen_eq_next.1 h
  obtain ⟨h1, rfl⟩ := progByte_next hv
  injection e with e
  exact ⟨h1, e.symm⟩

/-- What SPM and ESPM can address lies in program memory. -/
theorem spmReach_le (cfg : Config) (m : Mnemonic) : spmReach cfg m ≤ cfg.flashWords := by
  unfold spmReach
  split
  · exact Nat.min_le_left _ _
  · exact Nat.le_refl _

/-- Everything an SPM operation that answers can do (R262): program memory the instruction can address, the page buffer, or the lock
bits. -/
theorem spmApply_next {dev : SpmDevice} {op : SpmOp} {m : Mnemonic} {z : Nat} {s t : State}
    (h : spmApply dev op m z s = .next t) :
    (∃ f, spmPage dev z + dev.pageWords ≤ spmReach s.cfg m ∧
      t = { s with prog := Memory.writeWords .prog s.prog (spmPage dev z) dev.pageWords f }) ∨
    (∃ v, spmWord dev z < spmReach s.cfg m ∧
      t = { s with prog := Memory.writeWord .prog s.prog (spmWord dev z) v }) ∨
    (∃ w v, t = { s with pageBuffer := Memory.writeWord .pageBuffer s.pageBuffer w v }) ∨
    t = { s with blbits := s.pair 0 } := by
  cases op <;> simp only [spmApply] at h
  · split at h
    · rename_i hc; injection h with h; exact .inl ⟨_, hc, h.symm⟩
    · cases h
  · split at h
    · rename_i hc; injection h with h; exact .inr (.inl ⟨_, hc, h.symm⟩)
    · cases h
  · injection h with h; exact .inr (.inr (.inl ⟨_, _, h.symm⟩))
  · split at h
    · rename_i hc; injection h with h; exact .inl ⟨_, hc, h.symm⟩
    · cases h
  · injection h with h; exact .inr (.inr (.inr h.symm))

/-- SPM or ESPM that answers: the device defines the operation SPMCR selects. -/
theorem storeProgram_next {m : Mnemonic} {z : Nat} {s t : State} (h : storeProgram m z s = .next t) :
    ∃ dev op u, s.cfg.spm = some dev ∧ dev.commands.lookup s.spmcr = some op ∧
      spmApply dev op m z s = .next u ∧ t = u.advance 1 := by
  unfold storeProgram at h
  split at h
  · cases h
  · rename_i dev hd
    split at h
    · cases h
    · rename_i op ho
      obtain ⟨u, hu, e⟩ := andThen_eq_next.1 h
      injection e with e
      exact ⟨dev, op, u, hd, ho, hu, e.symm⟩

/-! ### Calls and returns -/

/-- A call that answers: the return address pushed, the target. -/
theorem callTo_next {s t : State} {r target : PcWord} (h : callTo s r target = .next t) :
    ∃ u, pushPc s r = .next u ∧ t = u.setPc target := by
  obtain ⟨u, hu, e⟩ := andThen_eq_next.1 h
  injection e with e
  exact ⟨u, hu, e.symm⟩

/-- A return from a subroutine that answers. -/
theorem returnFromSubroutine_next {s t : State} (h : returnFromSubroutine s = .next t) :
    ∃ a u, popPc s = .next (a, u) ∧ t = u.setPc a := by
  obtain ⟨r, hr, e⟩ := andThen_eq_next.1 h
  injection e with e
  exact ⟨r.1, r.2, hr, e.symm⟩

/-- A return from an interrupt that answers: as from a subroutine, and I is set. -/
theorem returnFromInterrupt_next {s t : State} (h : returnFromInterrupt s = .next t) :
    ∃ a u, popPc s = .next (a, u) ∧ t = (u.setSreg (setFlag u.sreg .I true)).setPc a := by
  obtain ⟨r, hr, e⟩ := andThen_eq_next.1 h
  injection e with e
  exact ⟨r.1, r.2, hr, e.symm⟩

end Sys2Proof.Machine
end

