-- ==== Sys2Proof/Laws/Step.lean ====
section
/-! SUPPORT. Everything a fetch and a step that answer can do. -/

namespace Sys2Proof.Machine

/-- A fetch that answers: the first word decodes, the device implements the instruction, its words lie in program memory (R100). -/
theorem fetch_next {s : State} {i : Instr} (h : fetch s = .next i) :
    ∃ row, s.pc.toNat < s.cfg.flashWords ∧
      decodeRow (Memory.readWord .prog s.prog s.pc.toNat) = some row ∧
      s.cfg.implements (mnemonicOf (row.build (Memory.readWord .prog s.prog s.pc.toNat) 0)) = true ∧
      ((isTwoWord (Memory.readWord .prog s.prog s.pc.toNat) = true ∧
          (s.pcPlus 1).toNat < s.cfg.flashWords ∧
          i = row.build (Memory.readWord .prog s.prog s.pc.toNat)
            (Memory.readWord .prog s.prog (s.pcPlus 1).toNat)) ∨
       (isTwoWord (Memory.readWord .prog s.prog s.pc.toNat) = false ∧
          i = row.build (Memory.readWord .prog s.prog s.pc.toNat) 0)) := by
  obtain ⟨w, hw, h⟩ := andThen_eq_next.1 h
  obtain ⟨h1, rfl⟩ := progWord_next hw
  split at h
  · cases h
  · rename_i row hrow
    split at h
    · rename_i himpl
      refine ⟨row, h1, hrow, himpl, ?_⟩
      split at h
      · rename_i h2
        obtain ⟨w2, hw2, e⟩ := andThen_eq_next.1 h
        obtain ⟨h3, rfl⟩ := progWord_next hw2
        injection e with e
        exact .inl ⟨h2, h3, e.symm⟩
      · rename_i h2
        injection h with e
        exact .inr ⟨by simpa using h2, e.symm⟩
    · cases h

/-- An interrupt that is taken comes from a pending source of 1 to NVECT, with I set (R336). -/
theorem interruptToTake_some {s : State} {n : Nat} (h : interruptToTake s = some n) :
    s.flag .I = true ∧ (s.sleeping = true ∨ s.holdoff = false) ∧ n ∈ s.pending ∧ 1 ≤ n ∧ n ≤ s.cfg.nvect := by
  unfold interruptToTake at h
  split at h
  · rename_i hc
    have hmem := List.mem_of_find?_eq_some h
    have hp := List.find?_some h
    simp only [Bool.and_eq_true, Bool.or_eq_true, Bool.not_eq_true'] at hc
    simp only [List.mem_range'_1] at hmem
    exact ⟨hc.1, hc.2, by simpa using hp, hmem.1, by omega⟩
  · cases h

/-- Everything a step that answers can do: a reset, an interrupt, a wait, or one instruction. -/
theorem step_next {s t : State} (h : step s = .next t) :
    (resetDue s = true ∧ t = deviceReset s) ∨
    (resetDue s = false ∧ ∃ n u, interruptToTake s = some n ∧ takeInterrupt n s = .next u ∧ t = tick u) ∨
    (resetDue s = false ∧ interruptToTake s = none ∧ s.sleeping = true ∧ t = tick s) ∨
    (resetDue s = false ∧ interruptToTake s = none ∧ s.sleeping = false ∧
      ∃ i u, fetch s = .next i ∧ exec i s = .next u ∧ t = afterInstruction i s u) := by
  unfold step at h
  split at h
  · rename_i hr; injection h with h; exact .inl ⟨hr, h.symm⟩
  · rename_i hr
    have hr : resetDue s = false := by simpa using hr
    split at h
    · rename_i n hn
      obtain ⟨u, hu, e⟩ := andThen_eq_next.1 h
      injection e with e
      exact .inr (.inl ⟨hr, n, u, hn, hu, e.symm⟩)
    · rename_i hn
      split at h
      · rename_i hs; injection h with h; exact .inr (.inr (.inl ⟨hr, hn, hs, h.symm⟩))
      · rename_i hs
        obtain ⟨i, hi, h⟩ := andThen_eq_next.1 h
        obtain ⟨u, hu, e⟩ := andThen_eq_next.1 h
        injection e with e
        exact .inr (.inr (.inr ⟨hr, hn, by simpa using hs, i, u, hi, hu, e.symm⟩))

/-- The memories of the state after reset are in canonical form. -/
theorem reset_wf : Memory.wf .sram State.reset.sram = true ∧ Memory.wf .io State.reset.io = true ∧
    Memory.wf .prog State.reset.prog = true ∧ Memory.wf .pageBuffer State.reset.pageBuffer = true :=
  ⟨rfl, rfl, rfl, rfl⟩

end Sys2Proof.Machine
end

