-- ==== Sys2Proof/Machine/Timing.lean ====
section
/-! DEFINITION. Cycle counts, an annotation no step reads (spec/70 R371, R372). -/

namespace Sys2Proof.Machine

/-- A data address in external RAM (R372). -/
def inExternalRam (s : State) (a : Nat) : Bool :=
  match s.cfg.externalRam with
  | some (base, _) => decide (base ≤ a)
  | none => false

/-- The wait states of external RAM (R372). -/
def waitStates (s : State) : Nat :=
  match s.cfg.externalRam with
  | some (_, n) => n
  | none => 0

/-- Two cycles for a data access, with one more and the wait states in external RAM (R371, R372). -/
def accessCycles (s : State) (a : Nat) : Nat := if inExternalRam s a then 3 + waitStates s else 2

/-- A call or return of `base` cycles with a 16-bit PC, one more with 22 bits, the stack's first byte being at `a` (R371,
R372). DESIGN CHOICE (assumption log 36): R372 says "the stack is in external RAM" and not what counts where only some of the
bytes lie there; the first byte pushed or popped decides. -/
def stackCycles (s : State) (base a : Nat) : Nat :=
  if s.cfg.pcBytes = 3 then base + 1 + (if inExternalRam s a then 5 + 3 * waitStates s else 0)
  else base + (if inExternalRam s a then 3 + 2 * waitStates s else 0)

/-- The address the stack is popped from first (R71). -/
def popAddress (s : State) : Nat := (wrapSp s.cfg (s.sp + 1)).toNat

/-- A skip: 1, or the words passed over and one (R371). -/
def skipCycles (cond : Bool) (s : State) : Option Nat :=
  if cond then
    match skipLen s with
    | .next n => some n
    | _ => none
  else some 1

/-- A conditional branch (R371). -/
def branchCycles (taken : Bool) : Option Nat := some (if taken then 2 else 1)

/-- The cycles of a conditional branch on one flag of SREG, by its primary instruction. -/
def branchFlagCycles (s : State) : Instr → Option Nat
  | .brbs f _ => branchCycles (s.flag f)
  | .brbc f _ => branchCycles (!s.flag f)
  | _ => none

/-- The address a load or store of the data space or the stack accesses. -/
def dataAddress (s : State) : Instr → Option Nat
  | .lds _ k => some (eaDirect s k)
  | .sts k _ => some (eaDirect s k)
  | .ldX _ | .ldXInc _ | .stX _ | .stXInc _ => some (ptrGet s .X)
  | .ldXDec _ | .stXDec _ => some (eaDec s .X)
  | .ldYInc _ | .stYInc _ => some (ptrGet s .Y)
  | .ldYDec _ | .stYDec _ => some (eaDec s .Y)
  | .lddY _ q => some (eaDisp s .Y q)
  | .stdY q _ => some (eaDisp s .Y q)
  | .ldZInc _ | .stZInc _ => some (ptrGet s .Z)
  | .ldZDec _ | .stZDec _ => some (eaDec s .Z)
  | .lddZ _ q => some (eaDisp s .Z q)
  | .stdZ q _ => some (eaDisp s .Z q)
  | .push _ => some s.sp.toNat
  | .pop _ => some (popAddress s)
  | _ => none

/-- The cycles of a primary instruction in a state, where the manual gives a figure: none for SPM and ESPM (R371). -/
def primaryCycles (s : State) (i : Instr) : Option Nat :=
  match i with
  | .spm | .espm => none
  | .adiw _ _ | .sbiw _ _ | .mul _ _ | .muls _ _ | .mulsu _ _ | .fmul _ _ | .fmuls _ _ | .fmulsu _ _ => some 2
  | .rjmp _ | .ijmp | .eijmp | .sbi _ _ | .cbi _ _ => some 2
  | .jmp _ | .lpmR0 | .lpm _ | .lpmInc _ | .elpmR0 | .elpm _ | .elpmInc _ => some 3
  | .brbs _ _ | .brbc _ _ => branchFlagCycles s i
  | .cpse d r => skipCycles (s.reg d == s.reg r) s
  | .sbrc r b => skipCycles (!(s.reg r).getLsbD b.toNat) s
  | .sbrs r b => skipCycles ((s.reg r).getLsbD b.toNat) s
  | .sbic A b => skipCycles (!(ioRead s (lowIo A)).1.getLsbD b.toNat) s
  | .sbis A b => skipCycles ((ioRead s (lowIo A)).1.getLsbD b.toNat) s
  | .rcall _ | .icall | .eicall => some (stackCycles s 3 s.sp.toNat)
  | .call _ => some (stackCycles s 4 s.sp.toNat)
  | .ret | .reti => some (stackCycles s 4 (popAddress s))
  | _ =>
    match dataAddress s i with
    | some a => some (accessCycles s a)
    | none => some 1

/-- The cycles of an instruction in a state (R371, R372); an alias takes those of its primary instruction. -/
def cycles (s : State) (i : Instr) : Option Nat := primaryCycles s (expand i)

end Sys2Proof.Machine
end

