-- ==== Sys2Proof/Tests/Slice0.lean ====
section
/-! SUPPORT. The model's own tests: ill-formed terms refused, words written out from the encodings decode, one-step results taken from
the vectors V<n>, W<n> and P<n> of spec/95 and spec/96, and for each obligation with hypotheses a state that meets them. -/

namespace Sys2Proof.Tests

open Sys2Proof Sys2Proof.Machine

/-! ## WellFormed: an ill-formed term for each check, refused; a boundary term for each, accepted -/

/-- The 4-bit register field holds only R16 to R31. -/
theorem test_upper_refused : (Instr.subi 15 0).wellFormed = false ∧ (Instr.subi 16 0).wellFormed = true := by decide

/-- The 3-bit register fields hold only R16 to R23. -/
theorem test_multiplier_refused :
    (Instr.fmul 24 16).wellFormed = false ∧ (Instr.mulsu 16 15).wellFormed = false ∧
    (Instr.fmul 23 16).wellFormed = true := by decide

/-- MOVW holds only even registers. -/
theorem test_even_refused :
    (Instr.movw 1 0).wellFormed = false ∧ (Instr.movw 0 3).wellFormed = false ∧
    (Instr.movw 30 0).wellFormed = true := by decide

/-- ADIW and SBIW hold only R24, R26, R28 and R30. -/
theorem test_word_pair_refused :
    (Instr.adiw 22 0).wellFormed = false ∧ (Instr.sbiw 25 0).wellFormed = false ∧
    (Instr.adiw 24 0).wellFormed = true ∧ (Instr.adiw 30 63).wellFormed = true := by decide

/-! ## Decoding: one word of every constructor, written out from its row of spec/30 -/

/-- Words of the arithmetic and logic rows (R97), bit by bit. -/
theorem test_decode_arithmetic_1 :
    decodeWords 0b0000110101101101#16 0 = some (.add 22 13) ∧
    decodeWords 0b0001110101101101#16 0 = some (.adc 22 13) ∧
    decodeWords 0b1001011011100100#16 0 = some (.adiw 28 52) ∧
    decodeWords 0b0001100101101101#16 0 = some (.sub 22 13) ∧
    decodeWords 0b0101110110110010#16 0 = some (.subi 27 210) ∧
    decodeWords 0b0000100101101101#16 0 = some (.sbc 22 13) ∧
    decodeWords 0b0100110110110010#16 0 = some (.sbci 27 210) ∧
    decodeWords 0b1001011111100100#16 0 = some (.sbiw 28 52) ∧
    decodeWords 0b0010000101101101#16 0 = some (.land 22 13) ∧
    decodeWords 0b0111110110110010#16 0 = some (.andi 27 210) ∧
    decodeWords 0b0010100101101101#16 0 = some (.lor 22 13) ∧
    decodeWords 0b0110110110110010#16 0 = some (.ori 27 210) ∧
    decodeWords 0b0010010101101101#16 0 = some (.eor 22 13) ∧
    decodeWords 0b1001010101100000#16 0 = some (.com 22) := by decide

/-- Words of the arithmetic and logic rows (R97), bit by bit. -/
theorem test_decode_arithmetic_2 :
    decodeWords 0b1001010101100001#16 0 = some (.neg 22) ∧
    decodeWords 0b1001010101100011#16 0 = some (.inc 22) ∧
    decodeWords 0b1001010101101010#16 0 = some (.dec 22) ∧
    decodeWords 0b1001110101101101#16 0 = some (.mul 22 13) ∧
    decodeWords 0b0000001010110110#16 0 = some (.muls 27 22) ∧
    decodeWords 0b0000001101010011#16 0 = some (.mulsu 21 19) ∧
    decodeWords 0b0000001101011011#16 0 = some (.fmul 21 19) ∧
    decodeWords 0b0000001111010011#16 0 = some (.fmuls 21 19) ∧
    decodeWords 0b0000001111011011#16 0 = some (.fmulsu 21 19) := by decide

/-- Words of the branch rows (R97), bit by bit. -/
theorem test_decode_branch_1 :
    decodeWords 0b1100101100111000#16 0 = some (.rjmp (-1224)) ∧
    decodeWords 0b1001010000001001#16 0 = some .ijmp ∧
    decodeWords 0b1001010000011001#16 0 = some .eijmp ∧
    decodeWords 0b1001010101101100#16 0xc35a = some (.jmp 0x2cc35a) ∧
    decodeWords 0b1101101100111000#16 0 = some (.rcall (-1224)) ∧
    decodeWords 0b1001010100001001#16 0 = some .icall ∧
    decodeWords 0b1001010100011001#16 0 = some .eicall ∧
    decodeWords 0b1001010101101110#16 0xc35a = some (.call 0x2cc35a) ∧
    decodeWords 0b1001010100001000#16 0 = some .ret ∧
    decodeWords 0b1001010100011000#16 0 = some .reti ∧
    decodeWords 0b0001000101101101#16 0 = some (.cpse 22 13) ∧
    decodeWords 0b0001010101101101#16 0 = some (.cp 22 13) ∧
    decodeWords 0b0000010101101101#16 0 = some (.cpc 22 13) ∧
    decodeWords 0b0011110110110010#16 0 = some (.cpi 27 210) := by decide

/-- Words of the branch rows (R97), bit by bit. -/
theorem test_decode_branch_2 :
    decodeWords 0b1111110011010101#16 0 = some (.sbrc 13 5) ∧
    decodeWords 0b1111111011010101#16 0 = some (.sbrs 13 5) ∧
    decodeWords 0b1001100110110101#16 0 = some (.sbic 22 5) ∧
    decodeWords 0b1001101110110101#16 0 = some (.sbis 22 5) ∧
    decodeWords 0b1111001011001110#16 0 = some (.brbs 6 (-39)) ∧
    decodeWords 0b1111011011001110#16 0 = some (.brbc 6 (-39)) := by decide

/-- Words of the data transfer rows (R97), bit by bit. -/
theorem test_decode_transfer_1 :
    decodeWords 0b0010110101101101#16 0 = some (.mov 22 13) ∧
    decodeWords 0b0000000110110110#16 0 = some (.movw 22 12) ∧
    decodeWords 0b1110110110110010#16 0 = some (.ldi 27 210) ∧
    decodeWords 0b1001000101100000#16 0xc35a = some (.lds 22 0xc35a) ∧
    decodeWords 0b1001000101101100#16 0 = some (.ldX 22) ∧
    decodeWords 0b1001000101101101#16 0 = some (.ldXInc 22) ∧
    decodeWords 0b1001000101101110#16 0 = some (.ldXDec 22) ∧
    decodeWords 0b1001000101101001#16 0 = some (.ldYInc 22) ∧
    decodeWords 0b1001000101101010#16 0 = some (.ldYDec 22) ∧
    decodeWords 0b1010010101101101#16 0 = some (.lddY 22 45) ∧
    decodeWords 0b1001000101100001#16 0 = some (.ldZInc 22) ∧
    decodeWords 0b1001000101100010#16 0 = some (.ldZDec 22) ∧
    decodeWords 0b1010010101100101#16 0 = some (.lddZ 22 45) ∧
    decodeWords 0b1001001011010000#16 0xc35a = some (.sts 0xc35a 13) := by decide

/-- Words of the data transfer rows (R97), bit by bit. -/
theorem test_decode_transfer_2 :
    decodeWords 0b1001001011011100#16 0 = some (.stX 13) ∧
    decodeWords 0b1001001011011101#16 0 = some (.stXInc 13) ∧
    decodeWords 0b1001001011011110#16 0 = some (.stXDec 13) ∧
    decodeWords 0b1001001011011001#16 0 = some (.stYInc 13) ∧
    decodeWords 0b1001001011011010#16 0 = some (.stYDec 13) ∧
    decodeWords 0b1010011011011101#16 0 = some (.stdY 45 13) ∧
    decodeWords 0b1001001011010001#16 0 = some (.stZInc 13) ∧
    decodeWords 0b1001001011010010#16 0 = some (.stZDec 13) ∧
    decodeWords 0b1010011011010101#16 0 = some (.stdZ 45 13) ∧
    decodeWords 0b1001010111001000#16 0 = some .lpmR0 ∧
    decodeWords 0b1001000101100100#16 0 = some (.lpm 22) ∧
    decodeWords 0b1001000101100101#16 0 = some (.lpmInc 22) ∧
    decodeWords 0b1001010111011000#16 0 = some .elpmR0 ∧
    decodeWords 0b1001000101100110#16 0 = some (.elpm 22) := by decide

/-- Words of the data transfer rows (R97), bit by bit. -/
theorem test_decode_transfer_3 :
    decodeWords 0b1001000101100111#16 0 = some (.elpmInc 22) ∧
    decodeWords 0b1011010101101101#16 0 = some (.ioIn 22 45) ∧
    decodeWords 0b1011110011011101#16 0 = some (.ioOut 45 13) ∧
    decodeWords 0b1001001011011111#16 0 = some (.push 13) ∧
    decodeWords 0b1001000101101111#16 0 = some (.pop 22) ∧
    decodeWords 0b1001010111101000#16 0 = some .spm ∧
    decodeWords 0b1001010111111000#16 0 = some .espm := by decide

/-- Words of the bit and MCU control rows (R97), bit by bit. -/
theorem test_decode_bit_1 :
    decodeWords 0b1001010101100110#16 0 = some (.lsr 22) ∧
    decodeWords 0b1001010101100111#16 0 = some (.ror 22) ∧
    decodeWords 0b1001010101100101#16 0 = some (.asr 22) ∧
    decodeWords 0b1001010101100010#16 0 = some (.swap 22) ∧
    decodeWords 0b1001101010110101#16 0 = some (.sbi 22 5) ∧
    decodeWords 0b1001100010110101#16 0 = some (.cbi 22 5) ∧
    decodeWords 0b1111101101100101#16 0 = some (.bst 22 5) ∧
    decodeWords 0b1111100101100101#16 0 = some (.bld 22 5) ∧
    decodeWords 0b1001010001101000#16 0 = some (.bset 6) ∧
    decodeWords 0b1001010011101000#16 0 = some (.bclr 6) ∧
    decodeWords 0b0000000000000000#16 0 = some .nop ∧
    decodeWords 0b1001010110001000#16 0 = some .sleep ∧
    decodeWords 0b1001010110101000#16 0 = some .wdr := by decide

/-- The aliases that share a word with an arithmetic or transfer row: the word encoded, and the primary it decodes to (R96). -/
theorem test_alias_words :
    (encode (.sbr 16 3) = [0x6003#16] ∧ decodeWords 0x6003 0 = some (.ori 16 3)) ∧
    (encode (.cbr 16 0xF0) = [0x700F#16] ∧ decodeWords 0x700F 0 = some (.andi 16 0x0F)) ∧
    (encode (.tst 0) = [0x2000#16] ∧ decodeWords 0x2000 0 = some (.land 0 0)) ∧
    (encode (.clr 18) = [0x2722#16] ∧ decodeWords 0x2722 0 = some (.eor 18 18)) ∧
    (encode (.ser 17) = [0xEF1F#16] ∧ decodeWords 0xEF1F 0 = some (.ldi 17 0xFF)) ∧
    (encode (.lsl 28) = [0x0FCC#16] ∧ decodeWords 0x0FCC 0 = some (.add 28 28)) ∧
    (encode (.rol 15) = [0x1CFF#16] ∧ decodeWords 0x1CFF 0 = some (.adc 15 15)) ∧
    (encode (.ldY 5) = [0x8058#16] ∧ decodeWords 0x8058 0 = some (.lddY 5 0)) ∧
    (encode (.ldZ 10) = [0x80A0#16] ∧ decodeWords 0x80A0 0 = some (.lddZ 10 0)) ∧
    (encode (.stY 4) = [0x8248#16] ∧ decodeWords 0x8248 0 = some (.stdY 0 4)) ∧
    (encode (.stZ 8) = [0x8280#16] ∧ decodeWords 0x8280 0 = some (.stdZ 0 8)) := by decide

/-- The named branches (V109 to V144): the word encoded, and the primary it decodes to. -/
theorem test_alias_branch_words :
    (encode (.breq 4) = [0xF021#16] ∧ decodeWords 0xF021 0 = some (.brbs 1 4)) ∧
    (encode (.brne 4) = [0xF421#16] ∧ decodeWords 0xF421 0 = some (.brbc 1 4)) ∧
    (encode (.brcs 4) = [0xF020#16] ∧ decodeWords 0xF020 0 = some (.brbs 0 4)) ∧
    (encode (.brcc 4) = [0xF420#16] ∧ decodeWords 0xF420 0 = some (.brbc 0 4)) ∧
    (encode (.brsh 4) = [0xF420#16] ∧ decodeWords 0xF420 0 = some (.brbc 0 4)) ∧
    (encode (.brlo 4) = [0xF020#16] ∧ decodeWords 0xF020 0 = some (.brbs 0 4)) ∧
    (encode (.brmi 4) = [0xF022#16] ∧ decodeWords 0xF022 0 = some (.brbs 2 4)) ∧
    (encode (.brpl 4) = [0xF422#16] ∧ decodeWords 0xF422 0 = some (.brbc 2 4)) ∧
    (encode (.brge 4) = [0xF424#16] ∧ decodeWords 0xF424 0 = some (.brbc 4 4)) ∧
    (encode (.brlt 4) = [0xF024#16] ∧ decodeWords 0xF024 0 = some (.brbs 4 4)) ∧
    (encode (.brhs 4) = [0xF025#16] ∧ decodeWords 0xF025 0 = some (.brbs 5 4)) ∧
    (encode (.brhc 4) = [0xF425#16] ∧ decodeWords 0xF425 0 = some (.brbc 5 4)) ∧
    (encode (.brts 4) = [0xF026#16] ∧ decodeWords 0xF026 0 = some (.brbs 6 4)) ∧
    (encode (.brtc 4) = [0xF426#16] ∧ decodeWords 0xF426 0 = some (.brbc 6 4)) ∧
    (encode (.brvs 4) = [0xF023#16] ∧ decodeWords 0xF023 0 = some (.brbs 3 4)) ∧
    (encode (.brvc 4) = [0xF423#16] ∧ decodeWords 0xF423 0 = some (.brbc 3 4)) ∧
    (encode (.brie 4) = [0xF027#16] ∧ decodeWords 0xF027 0 = some (.brbs 7 4)) ∧
    (encode (.brid 4) = [0xF427#16] ∧ decodeWords 0xF427 0 = some (.brbc 7 4)) := by decide

/-- The named flag instructions (V234 to V249): the word encoded, and the primary it decodes to. -/
theorem test_alias_flag_words :
    (encode .sec = [0x9408#16] ∧ decodeWords 0x9408 0 = some (.bset 0)) ∧
    (encode .clc = [0x9488#16] ∧ decodeWords 0x9488 0 = some (.bclr 0)) ∧
    (encode .sez = [0x9418#16] ∧ decodeWords 0x9418 0 = some (.bset 1)) ∧
    (encode .clz = [0x9498#16] ∧ decodeWords 0x9498 0 = some (.bclr 1)) ∧
    (encode .sen = [0x9428#16] ∧ decodeWords 0x9428 0 = some (.bset 2)) ∧
    (encode .cln = [0x94A8#16] ∧ decodeWords 0x94A8 0 = some (.bclr 2)) ∧
    (encode .sev = [0x9438#16] ∧ decodeWords 0x9438 0 = some (.bset 3)) ∧
    (encode .clv = [0x94B8#16] ∧ decodeWords 0x94B8 0 = some (.bclr 3)) ∧
    (encode .ses = [0x9448#16] ∧ decodeWords 0x9448 0 = some (.bset 4)) ∧
    (encode .cls = [0x94C8#16] ∧ decodeWords 0x94C8 0 = some (.bclr 4)) ∧
    (encode .seh = [0x9458#16] ∧ decodeWords 0x9458 0 = some (.bset 5)) ∧
    (encode .clh = [0x94D8#16] ∧ decodeWords 0x94D8 0 = some (.bclr 5)) ∧
    (encode .setT = [0x9468#16] ∧ decodeWords 0x9468 0 = some (.bset 6)) ∧
    (encode .clt = [0x94E8#16] ∧ decodeWords 0x94E8 0 = some (.bclr 6)) ∧
    (encode .sei = [0x9478#16] ∧ decodeWords 0x9478 0 = some (.bset 7)) ∧
    (encode .cli = [0x94F8#16] ∧ decodeWords 0x94F8 0 = some (.bclr 7)) := by decide

/-- Words that match no row (V255 to V268), first and last of their groups. -/
theorem test_reserved_words :
    [0x0001#16, 0x00FF, 0x9598, 0x95B8, 0x9404, 0x940B, 0x9204, 0x9003, 0x9008, 0xFF08, 0xF808, 0x9429, 0x9529,
      0xFFFF].all (fun w => (decodeRow w).isNone) = true := by decide

/-- The table's numbering of a two-word instruction's bits: CALL $0200 is 940EH first, then 0200H (V79). -/
theorem test_table_word : decodeTableWord 32 0x0200940E = some (.call 0x0200) ∧
    decodeTableWord 16 0x0C12 = some (.add 1 2) := by decide

/-! ## One step of each instruction, from the vectors -/

/-- A small state: the reference configuration with some registers, SREG, PC, SP, SRAM, I/O and program memory bytes. -/
def small (regs : List (Reg × Byte)) (sreg : Byte) (pc : PcWord) (sp : Word) (sram io prog : Memory) : State :=
  { State.powerOn Config.reference prog with
    regs := regs.foldl (fun v p => v.set p.1.toNat p.2) (Vector.replicate 32 0)
    sreg := sreg
    pc := pc
    sp := sp
    sram := sram
    io := io }

/-- Registers and flags only. -/
def regsOnly (regs : List (Reg × Byte)) (sreg : Byte) : State := small regs sreg 0 0 [] [] []

/-- What a test looks at after a next state. -/
def look (rs : List Reg) (o : Result State) : Option (List Byte × Byte × PcWord) :=
  match o with
  | .next t => some (rs.map t.reg, t.sreg, t.pc)
  | _ => none

/-- The same with the stack pointer, SRAM and the plain I/O locations. -/
structure Seen where
  regs : List Byte
  sreg : Byte
  pc : PcWord
  sp : Word
  sram : Memory
  io : Memory
  deriving DecidableEq, Repr

/-- What a test of a store or of the stack looks at after a next state. -/
def lookMem (rs : List Reg) (o : Result State) : Option Seen :=
  match o with
  | .next t => some ⟨rs.map t.reg, t.sreg, t.pc, t.sp, t.sram, t.io⟩
  | _ => none

/-- The fault an outcome is. -/
def faultOf (o : Result State) : Option Fault :=
  match o with
  | .fault e => some e
  | _ => none

/-- The refusal an outcome is. -/
def refusalOf (o : Result State) : Option Refusal :=
  match o with
  | .refused e => some e
  | _ => none

/-- An operation ended in a next state. -/
def goesOn (o : Result State) : Bool :=
  match o with
  | .next _ => true
  | _ => false

/-- V1. -/
theorem test_add :
    look [1, 2] (exec (.add 1 2) (regsOnly [(1, 0x7F), (2, 0x01)] 0x00)) = some ([0x80, 0x01], 0x2C, 0x01) := by decide

/-- V3. -/
theorem test_add_second :
    look [1, 2] (exec (.add 1 2) (regsOnly [(1, 0x80), (2, 0x80)] 0x00)) = some ([0x00, 0x80], 0x1B, 0x01) := by decide

/-- V5. -/
theorem test_adc :
    look [1, 3] (exec (.adc 3 1) (regsOnly [(1, 0x00), (3, 0xFF)] 0x01)) = some ([0x00, 0x00], 0x23, 0x01) := by decide

/-- V9. -/
theorem test_adiw :
    look [26, 27] (exec (.adiw 26 63) (regsOnly [(26, 0xC1), (27, 0x7F)] 0x00)) = some ([0x00, 0x80], 0x0C, 0x01) := by decide

/-- V8. -/
theorem test_adiw_second :
    look [24, 25] (exec (.adiw 24 1) (regsOnly [(24, 0xFF), (25, 0xFF)] 0x00)) = some ([0x00, 0x00], 0x03, 0x01) := by decide

/-- V12. -/
theorem test_sub :
    look [12, 13] (exec (.sub 13 12) (regsOnly [(12, 0x01), (13, 0x80)] 0x00)) = some ([0x01, 0x7F], 0x38, 0x01) := by decide

/-- V16. -/
theorem test_subi :
    look [16] (exec (.subi 16 255) (regsOnly [(16, 0x00)] 0x00)) = some ([0x01], 0x21, 0x01) := by decide

/-- V18. -/
theorem test_sbc :
    look [1, 3] (exec (.sbc 3 1) (regsOnly [(1, 0x00), (3, 0x00)] 0x00)) = some ([0x00, 0x00], 0x00, 0x01) := by decide

/-- V20. -/
theorem test_sbc_second :
    look [1, 3] (exec (.sbc 3 1) (regsOnly [(1, 0x00), (3, 0x80)] 0x01)) = some ([0x00, 0x7F], 0x38, 0x01) := by decide

/-- V22. -/
theorem test_sbci :
    look [17] (exec (.sbci 17 0) (regsOnly [(17, 0x01)] 0x03)) = some ([0x00], 0x02, 0x01) := by decide

/-- V24. -/
theorem test_sbiw :
    look [28, 29] (exec (.sbiw 28 63) (regsOnly [(28, 0x3E), (29, 0x80)] 0x00)) = some ([0xFF, 0x7F], 0x18, 0x01) := by decide

/-- V26. -/
theorem test_land :
    look [2, 3] (exec (.land 2 3) (regsOnly [(2, 0xF0), (3, 0x3C)] 0x09)) = some ([0x30, 0x3C], 0x01, 0x01) := by decide

/-- V29. -/
theorem test_andi :
    look [31] (exec (.andi 31 128) (regsOnly [(31, 0xFF)] 0x00)) = some ([0x80], 0x14, 0x01) := by decide

/-- V30. -/
theorem test_lor :
    look [15, 16] (exec (.lor 15 16) (regsOnly [(15, 0x81), (16, 0x42)] 0x08)) = some ([0xC3, 0x42], 0x14, 0x01) := by decide

/-- V31. -/
theorem test_ori :
    look [16] (exec (.ori 16 240) (regsOnly [(16, 0x0F)] 0x01)) = some ([0xFF], 0x15, 0x01) := by decide

/-- V33. -/
theorem test_eor :
    look [0, 22] (exec (.eor 0 22) (regsOnly [(0, 0xFF), (22, 0x0F)] 0x00)) = some ([0xF0, 0x0F], 0x14, 0x01) := by decide

/-- V36. -/
theorem test_com :
    look [4] (exec (.com 4) (regsOnly [(4, 0xFF)] 0x00)) = some ([0x00], 0x03, 0x01) := by decide

/-- V39. -/
theorem test_neg :
    look [11] (exec (.neg 11) (regsOnly [(11, 0x80)] 0x00)) = some ([0x80], 0x0D, 0x01) := by decide

/-- V40. -/
theorem test_neg_second :
    look [11] (exec (.neg 11) (regsOnly [(11, 0x01)] 0x00)) = some ([0xFF], 0x35, 0x01) := by decide

/-- V42. -/
theorem test_sbr :
    look [16] (exec (.sbr 16 3) (regsOnly [(16, 0x80)] 0x00)) = some ([0x83], 0x14, 0x01) := by decide

/-- V43. -/
theorem test_cbr :
    look [16] (exec (.cbr 16 240) (regsOnly [(16, 0xA5)] 0x00)) = some ([0x05], 0x00, 0x01) := by decide

/-- V45. -/
theorem test_inc :
    look [22] (exec (.inc 22) (regsOnly [(22, 0x7F)] 0x01)) = some ([0x80], 0x0D, 0x01) := by decide

/-- V48. -/
theorem test_dec :
    look [17] (exec (.dec 17) (regsOnly [(17, 0x80)] 0x00)) = some ([0x7F], 0x18, 0x01) := by decide

/-- V51. -/
theorem test_tst :
    look [0] (exec (.tst 0) (regsOnly [(0, 0x00)] 0x09)) = some ([0x00], 0x03, 0x01) := by decide

/-- V53. -/
theorem test_clr :
    look [18] (exec (.clr 18) (regsOnly [(18, 0x99)] 0xED)) = some ([0x00], 0xE3, 0x01) := by decide

/-- V54. -/
theorem test_ser :
    look [17] (exec (.ser 17) (regsOnly [(17, 0x00)] 0x02)) = some ([0xFF], 0x02, 0x01) := by decide

/-- V57. -/
theorem test_mul :
    look [0, 1] (exec (.mul 1 0) (regsOnly [(0, 0x10), (1, 0x10)] 0x00)) = some ([0x00, 0x01], 0x00, 0x01) := by decide

/-- V55. -/
theorem test_mul_second :
    look [0, 1, 4, 5] (exec (.mul 5 4) (regsOnly [(4, 0xFF), (5, 0xFF)] 0x00)) = some ([0x01, 0xFE, 0xFF, 0xFF], 0x01, 0x01) := by decide

/-- V59. -/
theorem test_muls :
    look [0, 1, 20, 21] (exec (.muls 21 20) (regsOnly [(20, 0x01), (21, 0xFF)] 0x00)) = some ([0xFF, 0xFF, 0x01, 0xFF], 0x01, 0x01) := by decide

/-- V61. -/
theorem test_mulsu :
    look [0, 1, 20, 21] (exec (.mulsu 21 20) (regsOnly [(20, 0xFF), (21, 0xFF)] 0x00)) = some ([0x01, 0xFF, 0xFF, 0xFF], 0x01, 0x01) := by decide

/-- V64. -/
theorem test_fmul :
    look [0, 1, 22, 23] (exec (.fmul 23 22) (regsOnly [(22, 0xFF), (23, 0xFF)] 0x00)) = some ([0x02, 0xFC, 0xFF, 0xFF], 0x01, 0x01) := by decide

/-- V67. -/
theorem test_fmuls :
    look [1, 22, 23] (exec (.fmuls 23 22) (regsOnly [(22, 0x40), (23, 0xC0)] 0x00)) = some ([0xE0, 0x40, 0xC0], 0x01, 0x01) := by decide

/-- V68. -/
theorem test_fmulsu :
    look [1, 22, 23] (exec (.fmulsu 23 22) (regsOnly [(22, 0xFF), (23, 0x80)] 0x00)) = some ([0x01, 0xFF, 0x80], 0x01, 0x01) := by decide

/-- V71. -/
theorem test_rjmp :
    look [] (exec (.rjmp 2047) (small [] 0x00 0x100 0x00 [] [] [])) = some ([], 0x00, 0x900) := by decide

/-- V74. -/
theorem test_ijmp :
    look [30, 31] (exec .ijmp (regsOnly [(30, 0x34), (31, 0x12)] 0x00)) = some ([0x34, 0x12], 0x00, 0x1234) := by decide

/-- V75. -/
theorem test_jmp :
    look [] (exec (.jmp 4660) (regsOnly [] 0x00)) = some ([], 0x00, 0x1234) := by decide

/-- V77. -/
theorem test_rcall :
    lookMem [] (exec (.rcall 16) (small [] 0x00 0x123 0x25F [] [] [])) =
      some ⟨[], 0x00, 0x134, 0x25D, [(0x25E, 0x01), (0x25F, 0x24)], []⟩ := by decide

/-- V78. -/
theorem test_icall :
    lookMem [30, 31] (exec .icall (small [(30, 0x00), (31, 0x02)] 0x00 0xFF 0x25F [] [] [])) =
      some ⟨[0x00, 0x02], 0x00, 0x200, 0x25D, [(0x25E, 0x01)], []⟩ := by decide

/-- V79. -/
theorem test_call :
    lookMem [] (exec (.call 512) (small [] 0x00 0x10 0x25F [] [] [])) =
      some ⟨[], 0x00, 0x200, 0x25D, [(0x25F, 0x12)], []⟩ := by decide

/-- V80. -/
theorem test_ret :
    lookMem [] (exec .ret (small [] 0x00 0x200 0x25D [(0x25F, 0x12)] [] [])) =
      some ⟨[], 0x00, 0x12, 0x25F, [(0x25F, 0x12)], []⟩ := by decide

/-- V81. -/
theorem test_reti :
    lookMem [] (exec .reti (small [] 0x00 0x200 0x25D [(0x25E, 0x01), (0x25F, 0x23)] [] [])) =
      some ⟨[], 0x80, 0x123, 0x25F, [(0x25E, 0x01), (0x25F, 0x23)], []⟩ := by decide

/-- V84. -/
theorem test_cpse :
    look [0, 4] (exec (.cpse 4 0) (small [(0, 0x42), (4, 0x42)] 0x00 0x00 0x00 [] [] [(0x00, 0x40), (0x01, 0x10), (0x02, 0x20), (0x03, 0x90), (0x04, 0x60), (0x05, 0x00), (0x06, 0x00), (0x07, 0x00)])) = some ([0x42, 0x42], 0x00, 0x03) := by decide

/-- V85. -/
theorem test_cpse_second :
    look [0, 4] (exec (.cpse 4 0) (small [(0, 0x43), (4, 0x42)] 0x00 0x00 0x00 [] [] [(0x00, 0x40), (0x01, 0x10), (0x02, 0x00), (0x03, 0x00)])) = some ([0x43, 0x42], 0x00, 0x01) := by decide

/-- V91. -/
theorem test_cp :
    look [4, 19] (exec (.cp 4 19) (regsOnly [(4, 0x00), (19, 0x80)] 0x00)) = some ([0x00, 0x80], 0x0D, 0x01) := by decide

/-- V94. -/
theorem test_cpc :
    look [1, 3] (exec (.cpc 3 1) (regsOnly [(1, 0x12), (3, 0x12)] 0x03)) = some ([0x12, 0x12], 0x35, 0x01) := by decide

/-- V93. -/
theorem test_cpc_second :
    look [1, 3] (exec (.cpc 3 1) (regsOnly [(1, 0x12), (3, 0x12)] 0x00)) = some ([0x12, 0x12], 0x00, 0x01) := by decide

/-- V96. -/
theorem test_cpi :
    look [16] (exec (.cpi 16 128) (regsOnly [(16, 0x7F)] 0x00)) = some ([0x7F], 0x0D, 0x01) := by decide

/-- V97. -/
theorem test_sbrc :
    look [0] (exec (.sbrc 0 7) (small [(0, 0x7F)] 0x00 0x00 0x00 [] [] [(0x00, 0x07), (0x01, 0xFC), (0x02, 0x00), (0x03, 0x00)])) = some ([0x7F], 0x00, 0x02) := by decide

/-- V98. -/
theorem test_sbrc_second :
    look [0] (exec (.sbrc 0 7) (small [(0, 0x80)] 0x00 0x00 0x00 [] [] [(0x00, 0x07), (0x01, 0xFC), (0x02, 0x00), (0x03, 0x00)])) = some ([0x80], 0x00, 0x01) := by decide

/-- V99. -/
theorem test_sbrs :
    look [0] (exec (.sbrs 0 0) (small [(0, 0x01)] 0x00 0x00 0x00 [] [] [(0x00, 0x00), (0x01, 0xFE), (0x02, 0x00), (0x03, 0x92), (0x04, 0x60), (0x05, 0x00)])) = some ([0x01], 0x00, 0x03) := by decide

/-- V100. -/
theorem test_sbrs_second :
    look [31] (exec (.sbrs 31 3) (small [(31, 0xF7)] 0x00 0x00 0x00 [] [] [(0x00, 0xF3), (0x02, 0x00), (0x03, 0x00)])) = some ([0xF7], 0x00, 0x01) := by decide

/-- V101. -/
theorem test_sbic :
    look [] (exec (.sbic 28 1) (small [] 0x00 0x00 0x00 [] [] [(0x00, 0xE1), (0x01, 0x99), (0x02, 0xFE), (0x03, 0xCF)])) = some ([], 0x00, 0x02) := by decide

/-- V102. -/
theorem test_sbic_second :
    look [] (exec (.sbic 28 1) (small [] 0x00 0x00 0x00 [] [(0x1C, 0x02)] [(0x00, 0xE1), (0x01, 0x99), (0x02, 0xFE), (0x03, 0xCF)])) = some ([], 0x00, 0x01) := by decide

/-- V103. -/
theorem test_sbis :
    look [] (exec (.sbis 16 0) (small [] 0x00 0x00 0x25F [] [(0x10, 0x01)] [(0x00, 0x80), (0x01, 0x9B), (0x02, 0x0E), (0x03, 0x94), (0x04, 0x00), (0x05, 0x01)])) = some ([], 0x00, 0x03) := by decide

/-- V104. -/
theorem test_sbis_second :
    look [] (exec (.sbis 31 7) (small [] 0x00 0x00 0x00 [] [(0x1F, 0x7F)] [(0x01, 0x9B), (0x02, 0x00), (0x03, 0x00)])) = some ([], 0x00, 0x01) := by decide

/-- V105. -/
theorem test_brbs :
    look [] (exec (.brbs 1 63) (small [] 0x02 0x02 0x00 [] [] [])) = some ([], 0x02, 0x42) := by decide

/-- V106. -/
theorem test_brbs_second :
    look [] (exec (.brbs 1 63) (small [] 0x00 0x02 0x00 [] [] [])) = some ([], 0x00, 0x03) := by decide

/-- V107. -/
theorem test_brbc :
    look [] (exec (.brbc 0 (-64)) (small [] 0x00 0x100 0x00 [] [] [])) = some ([], 0x00, 0xC1) := by decide

/-- V108. -/
theorem test_brbc_second :
    look [] (exec (.brbc 7 4) (small [] 0x80 0x100 0x00 [] [] [])) = some ([], 0x80, 0x101) := by decide

/-- V147. -/
theorem test_mov :
    look [0, 16] (exec (.mov 16 0) (regsOnly [(0, 0xA5), (16, 0x11)] 0xFF)) = some ([0xA5, 0xA5], 0xFF, 0x01) := by decide

/-- V149. -/
theorem test_movw :
    look [0, 1, 16, 17] (exec (.movw 16 0) (regsOnly [(0, 0x34), (1, 0x12), (16, 0x00), (17, 0x00)] 0x00)) = some ([0x34, 0x12, 0x34, 0x12], 0x00, 0x01) := by decide

/-- V151. -/
theorem test_ldi :
    look [16] (exec (.ldi 16 0) (regsOnly [(16, 0xFF)] 0x00)) = some ([0x00], 0x00, 0x01) := by decide

/-- V156. -/
theorem test_ldX :
    look [3, 5, 26, 27] (exec (.ldX 3) (regsOnly [(5, 0x77), (26, 0x05), (27, 0x00)] 0x00)) = some ([0x77, 0x77, 0x05, 0x00], 0x00, 0x01) := by decide

/-- V154. -/
theorem test_ldXInc :
    look [1, 26, 27] (exec (.ldXInc 1) (small [(26, 0xFF), (27, 0x00)] 0x00 0x00 0x00 [(0xFF, 0x5A)] [] [])) = some ([0x5A, 0x00, 0x01], 0x00, 0x01) := by decide

/-- V155. -/
theorem test_ldXDec :
    look [2, 26, 27] (exec (.ldXDec 2) (small [(26, 0x00), (27, 0x01)] 0x00 0x00 0x00 [(0xFF, 0x5A)] [] [])) = some ([0x5A, 0xFF, 0x00], 0x00, 0x01) := by decide

/-- V158. -/
theorem test_ldY :
    look [5, 28, 29] (exec (.ldY 5) (small [(28, 0x5D), (29, 0x00)] 0x00 0x00 0x123 [] [] [])) = some ([0x23, 0x5D, 0x00], 0x00, 0x01) := by decide

/-- V159. -/
theorem test_ldYInc :
    look [6, 28, 29] (exec (.ldYInc 6) (small [(28, 0x00), (29, 0x02)] 0x00 0x00 0x00 [(0x200, 0x42)] [] [])) = some ([0x42, 0x01, 0x02], 0x00, 0x01) := by decide

/-- V160. -/
theorem test_ldYDec :
    look [7, 28, 29] (exec (.ldYDec 7) (small [(28, 0x01), (29, 0x02)] 0x00 0x00 0x00 [(0x200, 0x42)] [] [])) = some ([0x42, 0x00, 0x02], 0x00, 0x01) := by decide

/-- V162. -/
theorem test_lddY :
    look [0, 9, 28, 29] (exec (.lddY 9 1) (regsOnly [(0, 0x53), (28, 0xFF), (29, 0xFF)] 0x00)) = some ([0x53, 0x53, 0xFF, 0xFF], 0x00, 0x01) := by decide

/-- V163. -/
theorem test_ldZ :
    look [10, 30, 31] (exec (.ldZ 10) (small [(30, 0x5F), (31, 0x02)] 0x00 0x00 0x00 [(0x25F, 0x99)] [] [])) = some ([0x99, 0x5F, 0x02], 0x00, 0x01) := by decide

/-- V164. -/
theorem test_ldZInc : faultOf (exec (.ldZInc 11) (regsOnly [(30, 0xFF), (31, 0xFF)] 0x00)) = some (.unmappedData 0xFFFF) := by decide

/-- V165. -/
theorem test_ldZDec : faultOf (exec (.ldZDec 12) (regsOnly [(30, 0x00), (31, 0x00)] 0x00)) = some (.unmappedData 0xFFFF) := by decide

/-- V166. -/
theorem test_lddZ :
    look [13, 30, 31] (exec (.lddZ 13 2) (small [(30, 0x1E), (31, 0x00)] 0x00 0x00 0x00 [] [(0x00, 0x3C)] [])) = some ([0x3C, 0x1E, 0x00], 0x00, 0x01) := by decide

/-- V171. -/
theorem test_lds :
    look [0] (exec (.lds 0 95) (regsOnly [] 0x81)) = some ([0x81], 0x81, 0x02) := by decide

/-- V177. -/
theorem test_stX :
    look [3, 26, 27] (exec (.stX 3) (regsOnly [(3, 0xAA), (26, 0x5F), (27, 0x00)] 0x00)) = some ([0xAA, 0x5F, 0x00], 0xAA, 0x01) := by decide

/-- V174. -/
theorem test_stXInc :
    lookMem [0, 26, 27] (exec (.stXInc 0) (regsOnly [(0, 0x53), (26, 0x60), (27, 0x00)] 0x00)) =
      some ⟨[0x53, 0x61, 0x00], 0x00, 0x01, 0x00, [(0x60, 0x53)], []⟩ := by decide

/-- V175. -/
theorem test_stXDec :
    lookMem [2, 26, 27] (exec (.stXDec 2) (regsOnly [(2, 0x8D), (26, 0x61), (27, 0x00)] 0x00)) =
      some ⟨[0x8D, 0x60, 0x00], 0x00, 0x01, 0x00, [(0x60, 0x8D)], []⟩ := by decide

/-- V178. -/
theorem test_stY :
    lookMem [4, 28, 29] (exec (.stY 4) (regsOnly [(4, 0xC7), (28, 0x5F), (29, 0x02)] 0x00)) =
      some ⟨[0xC7, 0x5F, 0x02], 0x00, 0x01, 0x00, [(0x25F, 0xC7)], []⟩ := by decide

/-- V179. -/
theorem test_stYInc :
    lookMem [5, 28, 29] (exec (.stYInc 5) (regsOnly [(5, 0xE4), (28, 0xFF), (29, 0x01)] 0x00)) =
      some ⟨[0xE4, 0x00, 0x02], 0x00, 0x01, 0x00, [(0x1FF, 0xE4)], []⟩ := by decide

/-- V180. -/
theorem test_stYDec :
    lookMem [6, 28, 29] (exec (.stYDec 6) (regsOnly [(6, 0x01), (28, 0x00), (29, 0x02)] 0x00)) =
      some ⟨[0x01, 0xFF, 0x01], 0x00, 0x01, 0x00, [(0x1FF, 0x01)], []⟩ := by decide

/-- V181. -/
theorem test_stdY :
    lookMem [7, 28, 29] (exec (.stdY 2 7) (regsOnly [(7, 0x1E), (28, 0x60), (29, 0x00)] 0x00)) =
      some ⟨[0x1E, 0x60, 0x00], 0x00, 0x01, 0x00, [(0x62, 0x1E)], []⟩ := by decide

/-- V182. -/
theorem test_stZ : faultOf (exec (.stZ 8) (regsOnly [(8, 0x3B), (30, 0x60), (31, 0x02)] 0x00)) = some (.unmappedData 0x0260) := by decide

/-- V183. -/
theorem test_stZInc :
    lookMem [9, 30, 31] (exec (.stZInc 9) (regsOnly [(9, 0x58), (30, 0x10), (31, 0x01)] 0x00)) =
      some ⟨[0x58, 0x11, 0x01], 0x00, 0x01, 0x00, [(0x110, 0x58)], []⟩ := by decide

/-- V184. -/
theorem test_stZDec :
    lookMem [10, 30, 31] (exec (.stZDec 10) (regsOnly [(10, 0x75), (30, 0x11), (31, 0x01)] 0x00)) =
      some ⟨[0x75, 0x10, 0x01], 0x00, 0x01, 0x00, [(0x110, 0x75)], []⟩ := by decide

/-- V185. -/
theorem test_stdZ :
    lookMem [11, 30, 31] (exec (.stdZ 63 11) (regsOnly [(11, 0x92), (30, 0x00), (31, 0x02)] 0x00)) =
      some ⟨[0x92, 0x00, 0x02], 0x00, 0x01, 0x00, [(0x23F, 0x92)], []⟩ := by decide

/-- V188. -/
theorem test_sts :
    look [2, 31] (exec (.sts 31 2) (regsOnly [(2, 0x8D), (31, 0x00)] 0x00)) = some ([0x8D, 0x8D], 0x00, 0x02) := by decide

/-- V190. -/
theorem test_sts_second :
    lookMem [16] (exec (.sts 94 16) (small [(16, 0x01)] 0x00 0x00 0x25F [] [] [])) =
      some ⟨[0x01], 0x00, 0x02, 0x15F, [], []⟩ := by decide

/-- V192. -/
theorem test_lpmR0 :
    look [0, 30, 31] (exec .lpmR0 (small [(30, 0xF1), (31, 0x00)] 0x00 0x00 0x00 [] [] [(0xF0, 0x34), (0xF1, 0x12)])) = some ([0x12, 0xF1, 0x00], 0x00, 0x01) := by decide

/-- V193. -/
theorem test_lpm :
    look [16, 30, 31] (exec (.lpm 16) (small [(30, 0xF1), (31, 0x00)] 0x00 0x00 0x00 [] [] [(0xF0, 0x34), (0xF1, 0x12)])) = some ([0x12, 0xF1, 0x00], 0x00, 0x01) := by decide

/-- V194. -/
theorem test_lpmInc :
    look [17, 30, 31] (exec (.lpmInc 17) (small [(30, 0xFF), (31, 0x00)] 0x00 0x00 0x00 [] [] [(0xFE, 0xEF), (0xFF, 0xBE)])) = some ([0xBE, 0x00, 0x01], 0x00, 0x01) := by decide

/-- V199. -/
theorem test_ioIn :
    look [28] (exec (.ioIn 28 61) (small [] 0x00 0x00 0x234 [] [] [])) = some ([0x34], 0x00, 0x01) := by decide

/-- V204. -/
theorem test_ioOut :
    lookMem [17] (exec (.ioOut 62 17) (small [(17, 0x02)] 0x00 0x00 0xFF [] [] [])) =
      some ⟨[0x02], 0x00, 0x01, 0x2FF, [], []⟩ := by decide

/-- V206. -/
theorem test_push :
    lookMem [14] (exec (.push 14) (small [(14, 0xE9)] 0x00 0x00 0x60 [] [] [])) =
      some ⟨[0xE9], 0x00, 0x01, 0x5F, [(0x60, 0xE9)], []⟩ := by decide

/-- V207. -/
theorem test_pop :
    lookMem [13] (exec (.pop 13) (small [] 0x00 0x00 0x25E [(0x25F, 0xE9)] [] [])) =
      some ⟨[0xE9], 0x00, 0x01, 0x25F, [(0x25F, 0xE9)], []⟩ := by decide

/-- V211. -/
theorem test_lsl :
    look [0] (exec (.lsl 0) (regsOnly [(0, 0x40)] 0x00)) = some ([0x80], 0x0C, 0x01) := by decide

/-- V214. -/
theorem test_lsr :
    look [0] (exec (.lsr 0) (regsOnly [(0, 0x01)] 0x00)) = some ([0x00], 0x1B, 0x01) := by decide

/-- V216. -/
theorem test_rol :
    look [15] (exec (.rol 15) (regsOnly [(15, 0x80)] 0x01)) = some ([0x01], 0x19, 0x01) := by decide

/-- V220. -/
theorem test_ror :
    look [15] (exec (.ror 15) (regsOnly [(15, 0x00)] 0x01)) = some ([0x80], 0x0C, 0x01) := by decide

/-- V222. -/
theorem test_asr :
    look [16] (exec (.asr 16) (regsOnly [(16, 0x81)] 0x00)) = some ([0xC0], 0x15, 0x01) := by decide

/-- V225. -/
theorem test_swap :
    look [1] (exec (.swap 1) (regsOnly [(1, 0xA5)] 0xFF)) = some ([0x5A], 0xFF, 0x01) := by decide

/-- V227. -/
theorem test_sbi :
    lookMem [] (exec (.sbi 18 7) (small [] 0x00 0x00 0x00 [] [(0x12, 0x01)] [])) =
      some ⟨[], 0x00, 0x01, 0x00, [], [(0x12, 0x81)]⟩ := by decide

/-- V228. -/
theorem test_cbi :
    lookMem [] (exec (.cbi 18 7) (small [] 0x00 0x00 0x00 [] [(0x12, 0xFF)] [])) =
      some ⟨[], 0x00, 0x01, 0x00, [], [(0x12, 0x7F)]⟩ := by decide

/-- V231. -/
theorem test_bst :
    look [1] (exec (.bst 1 2) (regsOnly [(1, 0xFB)] 0xFF)) = some ([0xFB], 0xBF, 0x01) := by decide

/-- V233. -/
theorem test_bld :
    look [0] (exec (.bld 0 4) (regsOnly [(0, 0xFF)] 0xBF)) = some ([0xEF], 0xBF, 0x01) := by decide

/-- V252. -/
theorem test_nop :
    look [] (exec .nop (regsOnly [] 0xFF)) = some ([], 0xFF, 0x01) := by decide

/-- V109 to V144: each named branch taken and not taken, by its own flag. -/
theorem test_named_branches :
    ∀ x ∈ ([(.breq 4, 0x02, 0x00), (.brne 4, 0x00, 0x02), (.brcs 4, 0x01, 0x00), (.brcc 4, 0x00, 0x01),
      (.brsh 4, 0x00, 0x01), (.brlo 4, 0x01, 0x00), (.brmi 4, 0x04, 0x00), (.brpl 4, 0x00, 0x04),
      (.brge 4, 0x00, 0x10), (.brlt 4, 0x10, 0x00), (.brhs 4, 0x20, 0x00), (.brhc 4, 0x00, 0x20),
      (.brts 4, 0x40, 0x00), (.brtc 4, 0x00, 0x40), (.brvs 4, 0x08, 0x00), (.brvc 4, 0x00, 0x08),
      (.brie 4, 0x80, 0x00), (.brid 4, 0x00, 0x80)] : List (Instr × Byte × Byte)),
      look [] (exec x.1 (small [] x.2.1 0x10 0 [] [] [])) = some ([], x.2.1, 0x15) ∧
      look [] (exec x.1 (small [] x.2.2 0x10 0 [] [] [])) = some ([], x.2.2, 0x11) := by decide

/-- V234 to V251: each flag instruction changes its own flag alone. -/
theorem test_flag_instructions :
    ∀ x ∈ ([(.sec, 0x00, 0x01), (.clc, 0xFF, 0xFE), (.sez, 0x00, 0x02), (.clz, 0xFF, 0xFD),
      (.sen, 0x00, 0x04), (.cln, 0xFF, 0xFB), (.sev, 0x00, 0x08), (.clv, 0xFF, 0xF7),
      (.ses, 0x00, 0x10), (.cls, 0xFF, 0xEF), (.seh, 0x00, 0x20), (.clh, 0xFF, 0xDF),
      (.setT, 0x00, 0x40), (.clt, 0xFF, 0xBF), (.sei, 0x00, 0x80), (.cli, 0xFF, 0x7F),
      (.bset 6, 0x40, 0x40), (.bclr 0, 0x00, 0x00)] : List (Instr × Byte × Byte)),
      look [] (exec x.1 (regsOnly [] x.2.1)) = some ([], x.2.2, 1) := by decide

/-! ## Devices other than the reference configuration -/

/-- W1 to W7: a 22-bit program counter, EIND, EIJMP and EICALL. -/
def bigDevice : Config :=
  { Config.reference with pcBits := 22, flashWords := 4194304, ramEnd := 0x10FF, lacks := [], ioEind := some 0x10 }

/-- W8 to W10: one bit of RAMPZ, ELPM and ESPM. -/
def elpmDevice : Config :=
  { Config.reference with progGt64KB := true, rampBits := 1, lacks := [.EICALL, .EIJMP], ioRampz := some 0x3B }

/-- W11 to W13: a data space of at most 256 bytes. -/
def tinyDevice : Config :=
  { Config.reference with dataClass := .le256, ramEnd := 0xDF, spWidth := .bits8 }

/-- W14 to W17: 1024 words of program memory. -/
def kiloDevice : Config := { Config.reference with pcBits := 10, flashWords := 1024 }

/-- More than 64K bytes of data space, with the four RAMP registers. -/
def rampDevice : Config :=
  { Config.reference with
    dataClass := .gt64K, rampBits := 8, ramEnd := 0x1FFFF, ioRampx := some 0x38, ioRampy := some 0x39,
    ioRampz := some 0x3A, ioRampd := some 0x3B }

/-- A device with two-word pages that defines the five SPM operations, in 1024 words of program memory. -/
def spmDevice : Config :=
  { kiloDevice with
    lacks := []
    ioSpmcr := some 0x37
    spm := some ⟨2, true, [(0x03, .erasePage), (0x05, .writePage), (0x01, .fillBuffer), (0x09, .setLockBits),
      (0x11, .writeWord)]⟩ }

/-- One interrupt source at word 2, a SLEEP that holds, a watchdog of 3 steps. -/
def eventDevice : Config :=
  { Config.reference with
    vectors := [0x0002], ioMcucr := some 0x35, sleepHold := some (0x20, 0x20), watchdogLimit := some 3 }

/-- A state of a device: some registers, PC, SP, SRAM and program memory. -/
def on (cfg : Config) (regs : List (Reg × Byte)) (pc : PcWord) (sp : Word) (sram prog : Memory) : State :=
  { State.powerOn cfg prog with
    regs := regs.foldl (fun v p => v.set p.1.toNat p.2) (Vector.replicate 32 0)
    pc := pc
    sp := sp
    sram := sram }

/-- W1: three bytes of return address. -/
theorem test_call_22_bits :
    lookMem [] (exec (.call 0x012345) (on bigDevice [] 0x100 0x10FF [] [])) =
      some ⟨[], 0, 0x012345, 0x10FC, [(0x10FE, 0x01), (0x10FF, 0x02)], []⟩ := by decide

/-- W2. -/
theorem test_ret_22_bits :
    lookMem [] (exec .ret (on bigDevice [] 0 0x10FC [(0x10FE, 0x01), (0x10FF, 0x02)] [])) =
      some ⟨[], 0, 0x000102, 0x10FF, [(0x10FE, 0x01), (0x10FF, 0x02)], []⟩ := by decide

/-- W3. -/
theorem test_eijmp :
    look [30, 31] (exec .eijmp { on bigDevice [(31, 0x10)] 0 0 [] [] with eind := 0x05 }) =
      some ([0x00, 0x10], 0, 0x051000) := by decide

/-- W4. -/
theorem test_eicall :
    lookMem [] (exec .eicall { on bigDevice [(31, 0x10)] 0x012345 0x025F [] [] with eind := 0x05 }) =
      some ⟨[], 0, 0x051000, 0x025C, [(0x25D, 0x01), (0x25E, 0x23), (0x25F, 0x46)], []⟩ := by decide

/-- W7: the sum wraps modulo 2^22. -/
theorem test_rjmp_wraps : look [] (exec (.rjmp (-2)) (on bigDevice [] 0 0 [] [])) = some ([], 0, 0x3FFFFF) := by decide

/-- W8, and the same byte into a named register. -/
theorem test_elpm :
    look [0] (exec .elpmR0 { on elpmDevice [(30, 1)] 0 0 [] [(0x10000, 0xFE), (0x10001, 0xCA)] with rampz := 1 }) =
      some ([0xCA], 0, 1) ∧
    look [16] (exec (.elpm 16) { on elpmDevice [(30, 1)] 0 0 [] [(0x10000, 0xFE), (0x10001, 0xCA)] with rampz := 1 }) =
      some ([0xCA], 0, 1) := by decide

/-- The RAMPZ register after a next state. -/
def rampzOf (o : Result State) : Option Byte :=
  match o with
  | .next t => some t.rampz
  | _ => none

/-- W9: the increment carries into RAMPZ. -/
theorem test_elpmInc :
    look [16, 30, 31] (exec (.elpmInc 16) (on elpmDevice [(30, 0xFF), (31, 0xFF)] 0 0 [] [(0xFFFE, 0xEF), (0xFFFF, 0xBE)])) =
      some ([0xBE, 0, 0], 0, 1) ∧
    rampzOf (exec (.elpmInc 16) (on elpmDevice [(30, 0xFF), (31, 0xFF)] 0 0 [] [(0xFFFE, 0xEF), (0xFFFF, 0xBE)])) = some 1 := by
  decide

/-- W10: the increment of LPM does not. -/
theorem test_lpmInc_keeps_rampz :
    rampzOf (exec (.lpmInc 16) (on elpmDevice [(30, 0xFF), (31, 0xFF)] 0 0 [] [])) = some 0 := by decide

/-- W12, W13: a pointer of one byte. -/
theorem test_one_byte_pointer :
    lookMem [26, 27] (exec (.stXInc 0) (on tinyDevice [(0, 0x53), (26, 0xDF), (27, 0x12)] 0 0 [] [])) =
      some ⟨[0xE0, 0x12], 0, 1, 0, [(0xDF, 0x53)], []⟩ ∧
    faultOf (exec (.ldXDec 1) (on tinyDevice [(27, 0x12)] 0 0 [] [])) = some (.unmappedData 0xFF) := by decide

/-- W17: the first byte address beyond program memory. -/
theorem test_lpm_out_of_range :
    faultOf (exec .lpmR0 (on kiloDevice [(31, 0x08)] 0 0 [] [])) = some (.progReadOutOfRange 0x800) := by decide

/-- The bytes of program memory after a next state. -/
def progOf (o : Result State) : Option Memory :=
  match o with
  | .next t => some t.prog
  | _ => none

/-- The page buffer and the lock bits after a next state. -/
def bufferOf (o : Result State) : Option (Memory × Word) :=
  match o with
  | .next t => some (t.pageBuffer, t.blbits)
  | _ => none

/-- R262 (ii), (iii), (v): one word written, one word buffered, the lock bits set. -/
theorem test_spm :
    progOf (exec .spm { on spmDevice [(0, 0x34), (1, 0x12), (30, 0x06)] 0 0 [] [] with spmcr := 0x11 }) =
      some [(0x06, 0x34), (0x07, 0x12)] ∧
    bufferOf (exec .spm { on spmDevice [(0, 0x34), (1, 0x12), (30, 0x06)] 0 0 [] [] with spmcr := 0x01 }) =
      some ([(0x02, 0x34), (0x03, 0x12)], 0) ∧
    bufferOf (exec .spm { on spmDevice [(0, 0x34), (1, 0x12)] 0 0 [] [] with spmcr := 0x09 }) =
      some ([], 0x1234) := by decide

/-- R262 (i), (iv): a page erased, a page written from the buffer. -/
theorem test_espm :
    progOf (exec .espm { on spmDevice [(30, 0x05)] 0 0 [] [(0x03, 0x11), (0x04, 0x22), (0x07, 0x33), (0x08, 0x44)] with spmcr := 0x03 }) =
      some [(0x03, 0x11), (0x08, 0x44)] ∧
    progOf (exec .espm { on spmDevice [(30, 0x05)] 0 0 [] [(0x03, 0x11)] with spmcr := 0x05, pageBuffer := [(0x01, 0x77)] }) =
      some [(0x03, 0x11), (0x05, 0x77)] := by decide

/-- V275, V274's sibling: no program memory writing in the reference configuration. -/
theorem test_spm_refused : refusalOf (exec .spm State.reset) = some (.deviceSpecific .SPM) := by decide

/-- V276, V287: the two refusals of a form that updates its pointer. -/
theorem test_unpredictable :
    refusalOf (exec (.ldXInc 26) (regsOnly [(26, 0x60)] 0)) = some (.unpredictableWord 0x91AD) ∧
    refusalOf (exec (.stXInc 5) (regsOnly [(5, 0xE4), (26, 0x1A)] 0)) = some (.unpredictableAddress 0x1A) := by decide

/-- V290 and V294: the neighbours of the refusals are ordinary. -/
theorem test_predictable :
    look [26, 28] (exec (.stYInc 5) (regsOnly [(5, 0xE4), (28, 0x1A)] 0)) = some ([0xE4, 0x1B], 0, 1) ∧
    lookMem [] (exec (.rcall 15) (small [] 0 0 0x61 [] [] [])) = some ⟨[], 0, 0x10, 0x5F, [(0x61, 0x01)], []⟩ := by decide

/-- SLEEP holds the core only where the device's control register asks for it (R312), V253. -/
theorem test_sleep :
    look [] (exec .sleep (regsOnly [] 0)) = some ([], 0, 1) ∧
    (match exec .sleep { State.powerOn eventDevice [] with mcucr := 0x21 } with
     | .next t => t.sleeping
     | _ => false) = true := by decide

/-- WDR restarts the watchdog timer (R313). -/
theorem test_wdr :
    (match exec .wdr { State.powerOn eventDevice [] with watchdog := 2 } with
     | .next t => t.watchdog
     | _ => 9) = 0 := by decide

/-! ## Steps -/

/-- An instruction placed at the reset vector is the next step's. -/
theorem test_withFetchWord_step :
    look [1] (step (State.reset.withFetchWord 16 0xE5A5)) = some ([0x00], 0, 1) ∧
    look [] (step (State.reset.withFetchWord 32 0x1234940C)) = some ([], 0, 0x1234) := by decide

/-- V255, V269, W16: the faults of a fetch. -/
theorem test_fetch_faults :
    faultOf (step (State.reset.withFetchWord 16 0x0001)) = some (.reservedInstruction 0x0001) ∧
    faultOf (step (State.reset.withFetchWord 16 0x95D8)) = some (.unimplementedInstruction .ELPM) ∧
    faultOf (step (on kiloDevice [] 0x400 0 [] [])) = some (.fetchOutOfRange 0x400) := by decide

/-- W15: the second word is read where the program counter wraps to. -/
theorem test_second_word_wraps :
    look [2] (step (on kiloDevice [] 0x3FF 0 [(0x60, 0xA0)] [(0x000, 0x60), (0x001, 0x00), (0x7FE, 0x20), (0x7FF, 0x90)])) =
      some ([0xA0], 0, 1) := by decide

/-- A state of P6 and W19: a pending source, I set, `holdoff` as given, two NOPs at the program counter. -/
def waiting (holdoff : Bool) : State :=
  { on eventDevice [] 0x0123 0x025F [] [(0x246, 0x00), (0x247, 0x00), (0x248, 0x00), (0x249, 0x00)] with
    sreg := 0x82, pending := [1], holdoff := holdoff }

/-- W19: interrupt entry. -/
theorem test_interrupt_entry :
    lookMem [] (step (waiting false)) = some ⟨[], 0x02, 0x0002, 0x025D, [(0x25E, 0x01), (0x25F, 0x23)], []⟩ := by decide

/-- W20: with `holdoff` the instruction executes. -/
theorem test_interrupt_held_off : lookMem [] (step (waiting true)) = some ⟨[], 0x82, 0x0124, 0x025F, [], []⟩ := by decide

/-- W21: a push address at SPH. -/
theorem test_interrupt_entry_refused :
    refusalOf (step { waiting false with sp := 0x5E }) = some (.unpredictableAddress 0x5E) := by decide

/-- P6, step 3: SEI sets the hold-off. -/
theorem test_sei_holds_off :
    (match step (State.reset.withFetchWord 16 0x9478) with
     | .next t => t.holdoff
     | _ => false) = true := by decide

/-! ## For each obligation with hypotheses, a state and operands that meet them -/

/-- decode_of_encode, at both ends of the tightest operand check. -/
theorem witness_decode_of_encode : (Instr.adiw 24 0).wellFormed = true ∧ (Instr.adiw 30 63).wellFormed = true := by decide

/-- encode_of_decode, one word and two. -/
theorem witness_encode_of_decode :
    decodeBytes [0x12, 0x0C, 0x99] = .instr (.add 1 2) [0x99] ∧
    decodeBytes [0x20, 0x90, 0x00, 0xFF] = .instr (.lds 2 0xFF00) [] := by decide

/-- unassigned_words: the state after reset fetches FFFFH. -/
theorem witness_unassigned_words :
    resetDue State.reset = false ∧ interruptToTake State.reset = none ∧ State.reset.sleeping = false ∧
    State.reset.pc.toNat < State.reset.cfg.flashWords ∧
    programByte State.reset (2 * State.reset.pc.toNat + 1) ++ programByte State.reset (2 * State.reset.pc.toNat) = 0xFFFF#16 ∧
    (decodeRow 0xFFFF).isNone = true := by decide

/-- two_word_test, both clauses. -/
theorem witness_two_word_test :
    decodeWords 0x9000 0xFF00 = some (.lds 0 0xFF00) ∧ (decodeRow 0x0001).isNone = true := by decide

/-- alias_has_primary_effect, at the greatest value RAMPBITS allows. -/
theorem witness_alias_has_primary_effect :
    ({ State.powerOn rampDevice [] with rampy := 0xFF, rampz := 0xFF } : State).rampy.toNat < 2 ^ rampDevice.rampBits ∧
    ({ State.powerOn rampDevice [] with rampy := 0xFF, rampz := 0xFF } : State).rampz.toNat < 2 ^ rampDevice.rampBits := by
  decide

/-- jump_results and flag_branches, at the greatest PCBITS. -/
theorem witness_jump_results : (State.powerOn bigDevice []).cfg.pcBits ≤ 22 := by decide

/-- call_results, with two and with three bytes of return address, from RAMEND. -/
theorem witness_call_results :
    SpInRange (small [] 0 0 0x25F [] [] []) ∧
    (∀ i, i < (small [] 0 0 0x25F [] [] []).cfg.pcBytes →
      StackByteOk (small [] 0 0 0x25F [] [] []) (pushAddress (small [] 0 0 0x25F [] [] []) i)) ∧
    SpInRange (on bigDevice [] 0 0x62 [] []) ∧
    (∀ i, i < (on bigDevice [] 0 0x62 [] []).cfg.pcBytes →
      StackByteOk (on bigDevice [] 0 0x62 [] []) (pushAddress (on bigDevice [] 0 0x62 [] []) i)) := by
  unfold SpInRange StackByteOk
  decide

/-- call_results, the faults: the first byte, and the second, has no place. -/
theorem witness_call_faults :
    (∀ x ∈ [((0x260 : Word), 0), (0x000, 1)], SpInRange (small [] 0 0 x.1 [] [] []) ∧
      (∀ j, j < x.2 → StackByteOk (small [] 0 0 x.1 [] [] []) (pushAddress (small [] 0 0 x.1 [] [] []) j)) ∧
      locate (small [] 0 0 x.1 [] [] []).cfg (pushAddress (small [] 0 0 x.1 [] [] []) x.2) = .unmapped) ∧
    faultOf (exec (.rcall 0) (small [] 0 0 0x000 [] [] [])) = some (.unmappedData 0xFFFF) := by
  unfold SpInRange StackByteOk
  decide

/-- A stacked byte that falls on SREG is written there (R72, R65). -/
theorem test_call_stacks_into_io :
    lookMem [] (exec (.call 0x1234) (small [] 0 0x00FE 0x60 [] [] [])) =
      some ⟨[], 0x01, 0x1234, 0x5E, [], []⟩ := by decide

/-- return_results, with the last byte at RAMEND and no device location. -/
theorem witness_return_results :
    (∀ i, i < (small [] 0 0 0x25D [] [] []).cfg.pcBytes →
      StackByteOk (small [] 0 0 0x25D [] [] []) (pullAddress (small [] 0 0 0x25D [] [] []) i)) ∧
    (∀ i, i < (small [] 0 0 0x25D [] [] []).cfg.pcBytes →
      NotDevice (small [] 0 0 0x25D [] [] []) (pullAddress (small [] 0 0 0x25D [] [] []) i)) := by
  unfold StackByteOk NotDevice
  decide

/-- return_results, the faults: the first byte, and the second, has no place. -/
theorem witness_return_faults :
    (∀ x ∈ [((0x25F : Word), 0), (0x25E, 1)],
      (∀ j, j < x.2 → StackByteOk (small [] 0 0 x.1 [] [] []) (pullAddress (small [] 0 0 x.1 [] [] []) j)) ∧
      locate (small [] 0 0 x.1 [] [] []).cfg (pullAddress (small [] 0 0 x.1 [] [] []) x.2) = .unmapped) ∧
    faultOf (exec .ret (small [] 0 0 0x25E [] [] [])) = some (.unmappedData 0x260) := by
  unfold StackByteOk
  decide

/-- pop_after_push and interrupt_then_return, at both ends of SRAM. -/
theorem witness_pop_after_push :
    SpInRange (small [] 0 0 0x25F [] [] []) ∧
    (∀ i, i < (small [] 0 0 0x25F [] [] []).cfg.pcBytes →
      locate (small [] 0 0 0x25F [] [] []).cfg (pushAddress (small [] 0 0 0x25F [] [] []) i) = .sram) ∧
    (∀ i, i < (small [] 0 0 0x61 [] [] []).cfg.pcBytes →
      locate (small [] 0 0 0x61 [] [] []).cfg (pushAddress (small [] 0 0 0x61 [] [] []) i) = .sram) ∧
    goesOn (pushPc (small [] 0 0 0x25F [] [] []) 0x1234) = true := by
  unfold SpInRange
  decide

/-- register_skips and io_skips at the last word of program memory: taken they fault, not taken they go on. -/
theorem witness_skips_at_end :
    kiloDevice.flashWords ≤ ((on { kiloDevice with pcBits := 16 } [] 0x3FF 0 [] []).pcPlus 1).toNat ∧
    faultOf (exec (.cpse 0 1) (on { kiloDevice with pcBits := 16 } [] 0x3FF 0 [] [])) = some (.fetchOutOfRange 0x400) ∧
    look [] (exec (.sbis 0 1) (on { kiloDevice with pcBits := 16 } [] 0x3FF 0 [] [])) = some ([], 0, 0x400) := by decide

/-- register_skips and io_skips, at the last word that has a next one. -/
theorem witness_skips :
    ((small [] 0 0xFFFE 0 [] [] []).pcPlus 1).toNat < (small [] 0 0xFFFE 0 [] [] []).cfg.flashWords ∧
    ((small [] 0 0 0 [] [] []).pcPlus 1).toNat < (small [] 0 0 0 [] [] []).cfg.flashWords := by decide

/-- branches_decide_relations: each of the four compares goes on. -/
theorem witness_branches_decide_relations :
    ∀ i ∈ [Instr.cp 1 2, .sub 1 2, .cpi 16 3, .subi 16 3], goesOn (exec i State.reset) = true := by decide

/-- updating_loads and updating_stores: pointers just below and just above their own registers, on all three classes. -/
theorem witness_updating_forms :
    (0 : Reg) ≠ Ptr.X.lo ∧ (0 : Reg) ≠ Ptr.X.lo + 1 ∧ (0 : Reg) ≠ Ptr.Y.lo ∧ (0 : Reg) ≠ Ptr.Y.lo + 1 ∧
    (0 : Reg) ≠ Ptr.Z.lo ∧ (0 : Reg) ≠ Ptr.Z.lo + 1 ∧
    (∀ s ∈ [regsOnly [(26, 25), (28, 27), (30, 29)] 0, regsOnly [(26, 28), (28, 30), (30, 32)] 0,
        on tinyDevice [(26, 25), (28, 27), (30, 29)] 0 0 [] [], on rampDevice [(26, 25), (28, 27), (30, 29)] 0 0 [] []],
      s.cfg.rampBits ≤ 8 ∧ ∀ p ∈ [Ptr.X, .Y, .Z], ptrClash s.cfg p (ptrGet s p) = false) ∧
    (∀ s ∈ [regsOnly [(26, 26), (28, 28), (30, 30)] 0, regsOnly [(26, 29), (28, 31), (30, 33)] 0,
        on tinyDevice [(26, 26), (28, 28), (30, 30)] 0 0 [] [], on rampDevice [(26, 26), (28, 28), (30, 30)] 0 0 [] []],
      ∀ p ∈ [Ptr.X, .Y, .Z], ptrClash s.cfg p (eaDec s p) = false) := by decide

/-- undefined_combinations_refused, both clauses. -/
theorem witness_undefined_combinations :
    firstWord (.ldXInc 26) = 0x91AD#16 ∧
    exec (.ldXInc 26) State.reset = .refused (.unpredictableWord 0x91AD) := ⟨by decide, rfl⟩

/-- self_referential_accesses_refused: both registers of each pointer, a RAMP register, SPL and SPH. -/
theorem witness_self_referential_accesses :
    (∀ s ∈ [regsOnly [(26, 26), (28, 28), (30, 30)] 0, regsOnly [(26, 27), (28, 29), (30, 31)] 0,
        on rampDevice [(26, 0x58), (28, 0x59), (30, 0x5A)] 0 0 [] []],
      ∀ p ∈ [Ptr.X, .Y, .Z], ptrClash s.cfg p (ptrGet s p) = true) ∧
    (∀ s ∈ [regsOnly [(26, 27), (28, 29), (30, 31)] 0, regsOnly [(26, 28), (28, 30), (30, 32)] 0],
      ∀ p ∈ [Ptr.X, .Y, .Z], ptrClash s.cfg p (eaDec s p) = true) ∧
    ioOwner Config.reference 0x3D = .spl ∧ ioOwner Config.reference 0x3E = .sph ∧
    locate Config.reference (small [] 0 0 0x5D [] [] []).sp.toNat = .io 0x3D ∧
    locate Config.reference (pullAddress (small [] 0 0 0x5D [] [] []) 0) = .io 0x3E := by decide

/-- self_referential_accesses_refused, the stack bytes: the first and the second at SPH, at SPL. -/
theorem witness_stack_bytes_refused :
    (∀ x ∈ [((0x5E : Word), 0), (0x5F, 1), (0x5D, 0)], SpInRange (small [] 0 0 x.1 [] [] []) ∧
      (∀ j, j < x.2 → StackByteOk (small [] 0 0 x.1 [] [] []) (pushAddress (small [] 0 0 x.1 [] [] []) j)) ∧
      stackClash Config.reference (pushAddress (small [] 0 0 x.1 [] [] []) x.2) = true) ∧
    (∀ x ∈ [((0x5C : Word), 0), (0x5B, 1), (0x5D, 0)],
      (∀ j, j < x.2 → StackByteOk (small [] 0 0 x.1 [] [] []) (pullAddress (small [] 0 0 x.1 [] [] []) j)) ∧
      stackClash Config.reference (pullAddress (small [] 0 0 x.1 [] [] []) x.2) = true) ∧
    resetDue { waiting false with sp := 0x5E } = false ∧
    interruptToTake { waiting false with sp := 0x5E } = some 1 := by
  unfold SpInRange StackByteOk
  decide

/-- lpm_results and elpm_results: the last byte of program memory, the first byte beyond, a register that is not Z's. -/
theorem witness_lpm_results :
    ((on kiloDevice [(30, 0xFF), (31, 0x07)] 0 0 [] []).pair 30).toNat < 2 * kiloDevice.flashWords ∧
    2 * kiloDevice.flashWords ≤ ((on kiloDevice [(30, 0x00), (31, 0x08)] 0 0 [] []).pair 30).toNat ∧
    (29 : Reg) ≠ 30 ∧ (29 : Reg) ≠ 31 ∧ kiloDevice.rampBits ≤ 8 ∧
    (on kiloDevice [(30, 0xFF), (31, 0x07)] 0 0 [] []).rampz.toNat * 65536 +
      ((on kiloDevice [(30, 0xFF), (31, 0x07)] 0 0 [] []).pair 30).toNat < 2 * kiloDevice.flashWords ∧
    2 * kiloDevice.flashWords ≤ (on kiloDevice [(30, 0x00), (31, 0x08)] 0 0 [] []).rampz.toNat * 65536 +
      ((on kiloDevice [(30, 0x00), (31, 0x08)] 0 0 [] []).pair 30).toNat := by decide

/-- push_pop_results: each place a stack byte can lie, at the ends of its range. -/
theorem witness_push_pop_results :
    ([0, 0x1F, 0x20, 0x5C, 0x5F, 0x60, 0x25F, 0x260].all fun a => !stackClash Config.reference a) = true ∧
    locate Config.reference 0x1F = .reg 31 ∧ locate Config.reference 0x20 = .io 0 ∧
    locate Config.reference 0x60 = .sram ∧ locate Config.reference 0x25F = .sram ∧
    locate Config.reference 0x260 = .unmapped ∧
    stackClash Config.reference (pullAddress (small [] 0 0 0x25E [] [] []) 0) = false ∧
    dataByte (small [] 0 0 0x25E [] [] []) (pullAddress (small [] 0 0 0x25E [] [] []) 0) = some 0 ∧
    stackClash Config.reference (pullAddress (small [] 0 0 0x25F [] [] []) 0) = false ∧
    dataByte (small [] 0 0 0x25F [] [] []) (pullAddress (small [] 0 0 0x25F [] [] []) 0) = none := by decide

/-- spm_without_device: no device, and a device with no command for SPMCR. -/
theorem witness_spm_without_device :
    (∀ dev, State.reset.cfg.spm = some dev → dev.commands.lookup State.reset.spmcr = none) ∧
    (∀ dev, (State.powerOn spmDevice []).cfg.spm = some dev →
      dev.commands.lookup (State.powerOn spmDevice []).spmcr = none) := by
  refine ⟨fun dev h => by simp [State.reset, State.powerOn, Config.reference] at h, fun dev h => ?_⟩
  injection h with h
  subst h
  rfl

/-- spm_with_device and the second clause of spm_without_device: every operation at the last page of program memory and at the
first beyond; the buffer and the lock bits at both. -/
theorem witness_spm_with_device :
    ∀ c ∈ ([(0x03, .erasePage), (0x05, .writePage), (0x01, .fillBuffer), (0x09, .setLockBits), (0x11, .writeWord)] :
        List (Byte × SpmOp)),
      (spmDevice.spm.bind fun dev => dev.commands.lookup c.1) = some c.2 ∧
      goesOn (exec .spm { on spmDevice [(30, 0xFE), (31, 0x07)] 0 0 [] [] with spmcr := c.1 }) = true ∧
      goesOn (exec .espm { on spmDevice [(30, 0xFE), (31, 0x07)] 0 0 [] [] with spmcr := c.1 }) = true ∧
      goesOn (exec .espm { on spmDevice [(30, 0x00), (31, 0x08)] 0 0 [] [] with spmcr := c.1 }) =
        (c.2 == .fillBuffer || c.2 == .setLockBits) := by decide

/-- R262, R263: with word addresses SPM reaches the first 32K words of program memory, ESPM all of it. -/
theorem test_spm_reach :
    (let s : State := { on { Config.reference with lacks := [], spm := some ⟨2, false, [(0x11, .writeWord)]⟩ }
        [(30, 0x00), (31, 0x80)] 0 0 [] [] with spmcr := 0x11 }
     refusalOf (exec .spm s) = some (.deviceSpecific .SPM) ∧
     progOf (exec .espm s) = some [(0x10000, 0x00), (0x10001, 0x00)] ∧
     progOf (exec .spm (s.setReg 31 0x7F)) = some [(0xFE00, 0x00), (0xFE01, 0x00)]) := by decide

/-- A device with two locations of its own, the second with an IoSetBit of its own. -/
def portDevice : Config := { Config.reference with deviceIo := [0x10, 0x12], setBitIo := [0x12] }

/-- R65, R66: at the device's own locations the device's functions say what is read and what changes. -/
theorem test_device_accesses :
    exec (.ioOut 0x10 5) (on portDevice [(5, 0x77)] 0 0 [] []) =
      .next (((on portDevice [(5, 0x77)] 0 0 [] []).setDevicePart
        (Config.deviceWrite 0 0x10 0x77 ⟨0, [], false, 0⟩)).setPc 1) ∧
    exec (.sbi 0x12 3) (on portDevice [] 0 0 [] []) =
      .next (((on portDevice [] 0 0 [] []).setDevicePart
        (Config.deviceSetBit 0 0x12 3 true ⟨0, [], false, 0⟩)).setPc 1) := ⟨rfl, rfl⟩

/-- sbi_cbi_results: a location with the default IoSetBit, one with its own. -/
theorem witness_sbi_cbi_results :
    ioOwner portDevice (0#1 ++ 0x10#5) = .device ∧ (0#1 ++ 0x10#5) ∉ portDevice.setBitIo ∧
    ioOwner portDevice (0#1 ++ 0x12#5) = .device ∧ (0#1 ++ 0x12#5) ∈ portDevice.setBitIo := by decide

/-- A state about to run one instruction: the state after reset with that instruction placed. -/
def about (nbits w : Nat) : State := State.reset.withFetchWord nbits w

/-- step_runs_the_decoded_instruction: one word and two. -/
theorem witness_step_runs_the_decoded_instruction :
    ∀ x ∈ [(about 16 0x0C12, Instr.add 1 2, [(0x00 : Byte), 0x00]), (about 32 0x0060_9020, .lds 2 0x60, [])],
      resetDue x.1 = false ∧ interruptToTake x.1 = none ∧ x.1.sleeping = false ∧
      decodeBytes [programByte x.1 (2 * x.1.pc.toNat), programByte x.1 (2 * x.1.pc.toNat + 1),
        programByte x.1 (2 * (x.1.pcPlus 1).toNat), programByte x.1 (2 * (x.1.pcPlus 1).toNat + 1)] =
          .instr x.2.1 x.2.2 ∧
      x.1.pc.toNat < x.1.cfg.flashWords ∧ (x.1.pcPlus 1).toNat < x.1.cfg.flashWords ∧
      x.1.cfg.implements (mnemonicOf x.2.1) = true := by decide

/-- fetch_faults: beyond program memory, a missing instruction, a missing second word. -/
theorem witness_fetch_faults :
    kiloDevice.flashWords ≤ (on { kiloDevice with pcBits := 16 } [] 0x400 0 [] []).pc.toNat ∧
    decodeWords (Memory.readWord .prog (about 16 0x95D8).prog 0) 0 = some .elpmR0 ∧
    (about 16 0x95D8).cfg.implements (mnemonicOf .elpmR0) = false ∧
    decodeWords (Memory.readWord .prog [(0x7FE, 0x20), (0x7FF, 0x90)] 0x3FF) 0 = some (.lds 2 0) ∧
    kiloDevice.implements (mnemonicOf (.lds 2 0)) = true ∧ (Instr.lds 2 0).words = 2 ∧
    kiloDevice.flashWords ≤
      ((on { kiloDevice with pcBits := 16 } [] 0x3FF 0 [] [(0x7FE, 0x20), (0x7FF, 0x90)]).pcPlus 1).toNat := by decide

/-- interrupt_entry, the faults, in a core that runs and in one that sleeps: the first byte, and the second, has no place. -/
theorem witness_interrupt_faults :
    ∀ x ∈ [((0x260 : Word), 0, (0x260 : Nat)), (0x000, 1, 0xFFFF)],
      (∀ j, j < x.2.1 → StackByteOk { waiting false with sp := x.1 } (pushAddress { waiting false with sp := x.1 } j)) ∧
      locate eventDevice (pushAddress { waiting false with sp := x.1 } x.2.1) = .unmapped ∧
      faultOf (step { waiting false with sp := x.1 }) = some (.unmappedData x.2.2) ∧
      faultOf (step { waiting true with sp := x.1, sleeping := true }) = some (.unmappedData x.2.2) := by
  unfold StackByteOk
  decide

/-- interrupt_entry: the state of W19. -/
theorem witness_interrupt_entry :
    resetDue (waiting false) = false ∧ (waiting false).flag .I = true ∧ (waiting false).holdoff = false ∧
    (waiting false).pc.toNat < 2 ^ (waiting false).cfg.pcBits ∧
    (waiting false).cfg.vectors[1 - 1]? = some 0x0002 ∧ 1 ∈ (waiting false).pending ∧
    (∀ m, 1 ≤ m → m < 1 → m ∉ (waiting false).pending) ∧ SpInRange (waiting false) ∧
    (∀ i, i < (waiting false).cfg.pcBytes → StackByteOk (waiting false) (pushAddress (waiting false) i)) := by
  unfold SpInRange StackByteOk
  rw [← and_assoc, ← and_assoc, ← and_assoc, ← and_assoc, ← and_assoc]
  exact ⟨by decide, fun m _ _ => by omega, by decide⟩

/-- interrupt_then_return: the same state, and the interrupt is taken. -/
theorem witness_interrupt_then_return :
    SpInRange (waiting false) ∧ (waiting false).pc.toNat < 2 ^ (waiting false).cfg.pcBits ∧
    (∀ i, i < (waiting false).cfg.pcBytes → locate (waiting false).cfg (pushAddress (waiting false) i) = .sram) ∧
    goesOn (takeInterrupt 1 (waiting false)) = true := by
  unfold SpInRange
  decide

/-- holdoff_after_enabling: SEI about to run. -/
theorem witness_holdoff_after_enabling :
    resetDue (about 16 0x9478) = false ∧ interruptToTake (about 16 0x9478) = none ∧ (about 16 0x9478).sleeping = false ∧
    fetch (about 16 0x9478) = .next (.bset 7) ∧ goesOn (exec (.bset 7) (about 16 0x9478)) = true :=
  ⟨by decide, by decide, by decide, rfl, by decide⟩

/-- sleeping_core, its three clauses. -/
theorem witness_sleeping_core :
    resetDue { waiting false with sleeping := true } = false ∧
    ({ waiting false with sleeping := true, sreg := 0 } : State).flag .I = false ∧
    ({ waiting false with sleeping := true } : State).flag .I = true ∧
    (∃ n ∈ ({ waiting false with sleeping := true } : State).pending,
      1 ≤ n ∧ n ≤ ({ waiting false with sleeping := true } : State).cfg.vectors.length) ∧
    (∀ n ∈ ({ waiting false with sleeping := true, pending := [0, 2] } : State).pending,
      n = 0 ∨ ({ waiting false with sleeping := true, pending := [0, 2] } : State).cfg.vectors.length < n) := by decide

/-- demanded_reset: a demanded reset, and a watchdog at its limit. -/
theorem witness_demanded_reset :
    ({ State.reset with resetDemanded := true } : State).resetDemanded = true ∧
    (State.powerOn eventDevice []).cfg.watchdogLimit = some 3 ∧
    3 ≤ ({ State.powerOn eventDevice [] with watchdog := 3 } : State).watchdog := by decide

/-- step_keeps_the_invariant: a state with an instruction placed meets the invariant, and its step goes on. -/
theorem witness_step_keeps_the_invariant : Inv (about 16 0x9478) ∧ goesOn (step (about 16 0x9478)) = true := by
  refine ⟨?_, by decide⟩
  constructor <;> decide

/-- At a boundary where a reset and an interrupt are both due the reset is taken (assumption log 17). -/
theorem test_reset_before_interrupt :
    look [] (step { waiting false with resetDemanded := true }) = some ([], 0x00, 0) := by decide

/-- program_memory_is_written_by_spm_only, its three clauses. -/
theorem witness_program_memory :
    storesProgram (.sts 0x60 0) = false ∧ goesOn (exec (.sts 0x60 0) State.reset) = true ∧
    goesOn (takeInterrupt 1 (waiting false)) = true ∧ goesOn (step (waiting false)) = true := by decide

/-- flags_change_only_as_listed and memory_changes_only_by_stores. -/
theorem witness_frames : storesData (.add 1 2) = false ∧ goesOn (exec (.add 1 2) State.reset) = true := by decide

/-- Cycle counts of the table of R371, in the reference configuration (16-bit PC). -/
theorem test_cycles :
    cycles State.reset (.add 1 2) = some 1 ∧ cycles State.reset (.mul 1 2) = some 2 ∧ cycles State.reset (.jmp 0) = some 3 ∧
    cycles State.reset (.call 0) = some 4 ∧ cycles State.reset (.rcall 0) = some 3 ∧ cycles State.reset .reti = some 4 ∧
    cycles State.reset (.lpmInc 0) = some 3 ∧ cycles State.reset (.push 0) = some 2 ∧ cycles State.reset .spm = none := by decide

end Sys2Proof.Tests
end

/-! Addition, subtraction with carry, logic, right shift and SWAP: the byte facts, the endings the instructions share, and the
obligations O8, O11, O14 and O20. -/

namespace Sys2Proof.Machine

/-! ### Bits of a byte as bounds of its value -/

/-- Bit 3 tells whether the low half of the byte is at least 8. -/
theorem getLsbD_three (x : Byte) : x.getLsbD 3 = decide (8 ≤ x.toNat % 16) := by
  rw [← BitVec.testBit_toNat, Nat.testBit_eq_decide_div_mod_eq, decide_eq_decide]
  omega

/-- Bit 7 tells whether the byte is at least 128. -/
theorem getLsbD_seven (x : Byte) : x.getLsbD 7 = decide (128 ≤ x.toNat) := by
  have hx := x.isLt
  rw [← BitVec.testBit_toNat, Nat.testBit_eq_decide_div_mod_eq, decide_eq_decide]
  omega

/-- The sign bit by its number, as the flag formulas of R12 to R17 write it. -/
theorem msb_eq_getLsbD_seven (x : Byte) : x.msb = x.getLsbD 7 := BitVec.msb_eq_getLsbD_last x

/-- The signed reading of a byte by its value. -/
theorem toInt_byte (x : Byte) : x.toInt = if 128 ≤ x.toNat then (x.toNat : Int) - 256 else x.toNat := by
  rw [BitVec.toInt_eq_toNat_cond]
  split <;> split <;> omega

/-! ### Carry and borrow formulas (R13, R14)

`p` is the weight of the bit looked at, 8 for H and 128 for C and V: `a`, `b`, `r` are the operands and the result modulo
`2 * p`, so that the bit of each is set exactly where it is at least `p`. -/

section BitFormulas

variable {p a b r c : Nat} (ha : a < 2 * p) (hb : b < 2 * p) (hr : r < 2 * p) (hc : c ≤ 1)
include ha hb hr hc

theorem carryFrom_eq (h : r = a + b + c ∨ r + 2 * p = a + b + c) :
    carryFrom (decide (p ≤ a)) (decide (p ≤ b)) (decide (p ≤ r)) = decide (2 * p ≤ a + b + c) := by
  rw [Bool.eq_iff_iff]
  simp only [carryFrom, Bool.or_eq_true, Bool.and_eq_true, Bool.not_eq_true', decide_eq_true_eq, decide_eq_false_iff_not]
  omega

theorem borrowFrom_eq (h : r + b + c = a ∨ r + b + c = a + 2 * p) :
    borrowFrom (decide (p ≤ a)) (decide (p ≤ b)) (decide (p ≤ r)) = decide (a < b + c) := by
  rw [Bool.eq_iff_iff]
  simp only [borrowFrom, Bool.or_eq_true, Bool.and_eq_true, Bool.not_eq_true', decide_eq_true_eq, decide_eq_false_iff_not]
  omega

end BitFormulas

/-! ### Add8 and Sub8 -/

section ByteArithmetic

variable (a b : Byte) (c : Bool)

theorem add8_result_toNat : (add8 a b c).result.toNat = (a.toNat + b.toNat + c.toNat) % 256 :=
  BitVec.toNat_ofNat _ _

theorem add8_h_eq_carryFrom :
    (add8 a b c).h = carryFrom (a.getLsbD 3) (b.getLsbD 3) ((add8 a b c).result.getLsbD 3) := by
  have hc := c.toNat_le
  rw [getLsbD_three, getLsbD_three, getLsbD_three, add8_result_toNat,
    carryFrom_eq (c := c.toNat) (by omega) (by omega) (by omega) hc (by omega)]
  exact decide_eq_decide.2 (by omega)

theorem add8_c_eq_carryFrom :
    (add8 a b c).c = carryFrom (a.getLsbD 7) (b.getLsbD 7) ((add8 a b c).result.getLsbD 7) := by
  have hc := c.toNat_le
  have ha := a.isLt
  have hb := b.isLt
  rw [getLsbD_seven, getLsbD_seven, getLsbD_seven, add8_result_toNat,
    carryFrom_eq (c := c.toNat) (by omega) (by omega) (by omega) hc (by omega)]
  exact decide_eq_decide.2 (by omega)

theorem add8_v_eq_addOverflow :
    (add8 a b c).v = addOverflow (a.getLsbD 7) (b.getLsbD 7) ((add8 a b c).result.getLsbD 7) := by
  have hc := c.toNat_le
  have ha := a.isLt
  have hb := b.isLt
  have hr := add8_result_toNat a b c
  have hv : (add8 a b c).v = overflows (a.toInt + b.toInt + c.toNat) := rfl
  rw [hv, Bool.eq_iff_iff]
  simp only [overflows, addOverflow, toInt_byte, getLsbD_seven, Bool.or_eq_true, Bool.and_eq_true, Bool.not_eq_true',
    decide_eq_true_eq, decide_eq_false_iff_not]
  omega

theorem sub8_result_toNat :
    ((sub8 a b c).result.toNat : Int) = ((a.toNat : Int) - b.toNat - c.toNat) % 256 := by
  simp only [sub8, BitVec.toNat_ofInt]
  omega

theorem sub8_h_eq_borrowFrom :
    (sub8 a b c).h = borrowFrom (a.getLsbD 3) (b.getLsbD 3) ((sub8 a b c).result.getLsbD 3) := by
  have hc := c.toNat_le
  have hr := sub8_result_toNat a b c
  rw [getLsbD_three, getLsbD_three, getLsbD_three,
    borrowFrom_eq (c := c.toNat) (by omega) (by omega) (by omega) hc (by omega)]
  rfl

theorem sub8_c_eq_borrowFrom :
    (sub8 a b c).c = borrowFrom (a.getLsbD 7) (b.getLsbD 7) ((sub8 a b c).result.getLsbD 7) := by
  have hc := c.toNat_le
  have ha := a.isLt
  have hb := b.isLt
  have hr := sub8_result_toNat a b c
  rw [getLsbD_seven, getLsbD_seven, getLsbD_seven,
    borrowFrom_eq (c := c.toNat) (by omega) (by omega) (by omega) hc (by omega)]
  rfl

theorem sub8_v_eq_subOverflow :
    (sub8 a b c).v = subOverflow (a.getLsbD 7) (b.getLsbD 7) ((sub8 a b c).result.getLsbD 7) := by
  have hc := c.toNat_le
  have ha := a.isLt
  have hb := b.isLt
  have hr := sub8_result_toNat a b c
  have hv : (sub8 a b c).v = overflows (a.toInt - b.toInt - c.toNat) := rfl
  rw [hv, Bool.eq_iff_iff]
  simp only [overflows, subOverflow, toInt_byte, getLsbD_seven, Bool.or_eq_true, Bool.and_eq_true, Bool.not_eq_true',
    decide_eq_true_eq, decide_eq_false_iff_not]
  omega

end ByteArithmetic

/-! ### The flag computations of R16 and R17 -/

/-- SetFlagsLogic writes S, V, N and Z (R16). -/
theorem getFlag_setFlagsLogic (x r : Byte) (g : Flag) :
    getFlag (setFlagsLogic x r) g =
      if g = .S then r.msb else if g = .V then false else if g = .Z then r == 0
      else if g = .N then r.msb else getFlag x g := by
  simp [setFlagsLogic, getFlag_setNZS]

/-- SetFlagsShiftRight writes S, V, N, Z and C (R17). -/
theorem getFlag_setFlagsShiftRight (x r : Byte) (c : Bool) (g : Flag) :
    getFlag (setFlagsShiftRight x r c) g =
      if g = .S then (r.msb ^^ (r.msb ^^ c)) else if g = .V then (r.msb ^^ c) else if g = .Z then r == 0
      else if g = .N then r.msb else if g = .C then c else getFlag x g := by
  simp [setFlagsShiftRight, getFlag_setNZS, getFlag_setFlag]

theorem setFlagsAddSub_keeps (x : Byte) (q : Arith8) (f : Flag) (hf : f ∉ arithFlags) :
    getFlag (setFlagsAddSub x q) f = getFlag x f := by
  simp only [arithFlags, List.mem_cons, not_or] at hf
  simp only [getFlag_setFlagsAddSub, hf, if_false]

theorem setFlagsSubCarry_keeps (x : Byte) (q : Arith8) (f : Flag) (hf : f ∉ arithFlags) :
    getFlag (setFlagsSubCarry x q) f = getFlag x f := by
  have hZ : f ≠ .Z := fun e => hf (by simp [arithFlags, e])
  rw [getFlag_setFlagsSubCarry, if_neg hZ, setFlagsAddSub_keeps x q f hf]

theorem setFlagsLogic_keeps (x r : Byte) (f : Flag) (hf : f ∉ logicFlags) :
    getFlag (setFlagsLogic x r) f = getFlag x f := by
  simp only [logicFlags, List.mem_cons, not_or] at hf
  simp only [getFlag_setFlagsLogic, hf, if_false]

theorem setFlagsShiftRight_keeps (x r : Byte) (c : Bool) (f : Flag) (hf : f ∉ wordFlags) :
    getFlag (setFlagsShiftRight x r c) f = getFlag x f := by
  simp only [wordFlags, List.mem_cons, not_or] at hf
  simp only [getFlag_setFlagsShiftRight, hf, if_false]

/-! ### The states the shared endings of the register instructions answer -/

/-- The state after a result register and SREG are written and the next word is reached. -/
def afterReg (s : State) (d : Reg) (r sreg : Byte) : State := ((s.setReg d r).setSreg sreg).advance 1

theorem finishReg_eq (s : State) (d : Reg) (r sreg : Byte) : finishReg s d r sreg = .next (afterReg s d r sreg) := rfl

@[simp] theorem afterReg_reg_same (s : State) (d : Reg) (r sreg : Byte) : (afterReg s d r sreg).reg d = r := by
  simp [afterReg]

@[simp] theorem afterReg_flag (s : State) (d : Reg) (r sreg : Byte) (f : Flag) :
    (afterReg s d r sreg).flag f = getFlag sreg f := rfl

@[simp] theorem afterReg_pc (s : State) (d : Reg) (r sreg : Byte) : (afterReg s d r sreg).pc = s.pcPlus 1 := rfl

theorem onlyChanged_afterReg (s : State) (d : Reg) (r sreg : Byte) (flags : List Flag)
    (h : ∀ f, f ∉ flags → getFlag sreg f = s.flag f) : OnlyChanged [d] flags s (afterReg s d r sreg) :=
  onlyChanged_setReg_setSreg s d r sreg 1 flags h

/-! ### ADD and ADC (R121, R122) -/

theorem additionFlags_of_setFlagsAddSub {t : State} {x a b : Byte} {c : Bool}
    (ht : ∀ f, t.flag f = getFlag (setFlagsAddSub x (add8 a b c)) f) :
    AdditionFlags a b (add8 a b c).result t := by
  unfold AdditionFlags
  rw [← add8_h_eq_carryFrom, ← add8_c_eq_carryFrom, ← add8_v_eq_addOverflow, ← msb_eq_getLsbD_seven]
  simp [ht, getFlag_setFlagsAddSub, Bool.beq_eq_decide_eq]

/-- What ADD (`c` clear) and ADC (`c` the old carry) answer. -/
theorem finishReg_add8 (s : State) (d : Reg) (b : Byte) (c : Bool) :
    ∃ t, finishReg s d (add8 (s.reg d) b c).result (setFlagsAddSub s.sreg (add8 (s.reg d) b c)) = .next t ∧
      (t.reg d).toNat = ((s.reg d).toNat + b.toNat + c.toNat) % 256 ∧
      AdditionFlags (s.reg d) b (t.reg d) t ∧ t.pc = s.pcPlus 1 ∧ OnlyChanged [d] arithFlags s t := by
  refine ⟨_, finishReg_eq _ _ _ _, ?_, ?_, afterReg_pc _ _ _ _,
    onlyChanged_afterReg _ _ _ _ _ (setFlagsAddSub_keeps _ _)⟩
  · rw [afterReg_reg_same, add8_result_toNat]
  · rw [afterReg_reg_same]
    exact additionFlags_of_setFlagsAddSub (afterReg_flag _ _ _ _)

/-- Settles O8: both instructions are one addition, with the carry clear or the old one. -/
theorem additionResults : Obligations.addition_results :=
  fun s d r => ⟨finishReg_add8 s d (s.reg r) false, finishReg_add8 s d (s.reg r) (s.flag .C)⟩

/-! ### SBC and SBCI (R126, R127) -/

theorem subtractionFlags_of_setFlagsSubCarry {t : State} {x a b : Byte} {c : Bool}
    (ht : ∀ f, t.flag f = getFlag (setFlagsSubCarry x (sub8 a b c)) f) :
    SubtractionFlags a b (sub8 a b c).result (decide ((sub8 a b c).result = 0) && getFlag x .Z) t := by
  unfold SubtractionFlags
  rw [← sub8_h_eq_borrowFrom, ← sub8_c_eq_borrowFrom, ← sub8_v_eq_subOverflow, ← msb_eq_getLsbD_seven]
  simp [ht, getFlag_setFlagsSubCarry, getFlag_setFlagsAddSub, Bool.beq_eq_decide_eq]

/-- What SBC and SBCI answer, `b` being the register or the constant subtracted. -/
theorem finishReg_sub8_carry (s : State) (d : Reg) (b : Byte) :
    ∃ t, finishReg s d (sub8 (s.reg d) b (s.flag .C)).result
        (setFlagsSubCarry s.sreg (sub8 (s.reg d) b (s.flag .C))) = .next t ∧
      ((t.reg d).toNat : Int) = ((s.reg d).toNat - b.toNat - (s.flag .C).toNat : Int) % 256 ∧
      SubtractionFlags (s.reg d) b (t.reg d) (decide (t.reg d = 0) && s.flag .Z) t ∧ t.pc = s.pcPlus 1 ∧
      OnlyChanged [d] arithFlags s t := by
  refine ⟨_, finishReg_eq _ _ _ _, ?_, ?_, afterReg_pc _ _ _ _,
    onlyChanged_afterReg _ _ _ _ _ (setFlagsSubCarry_keeps _ _)⟩
  · rw [afterReg_reg_same, sub8_result_toNat]
  · rw [afterReg_reg_same]
    exact subtractionFlags_of_setFlagsSubCarry (afterReg_flag _ _ _ _)

/-- Settles O11: one subtraction with carry, of a register or of a constant. -/
theorem subtractionWithCarryResults : Obligations.subtraction_with_carry_results :=
  fun s d r K => ⟨finishReg_sub8_carry s d (s.reg r), finishReg_sub8_carry s d K⟩

/-! ### The logic instructions (R129 to R133, R136, R137) -/

theorem logicFlags_of_setFlagsLogic {t : State} {x r : Byte}
    (ht : ∀ f, t.flag f = getFlag (setFlagsLogic x r) f) : LogicFlags r t := by
  unfold LogicFlags
  rw [← msb_eq_getLsbD_seven]
  simp [ht, getFlag_setFlagsLogic, Bool.beq_eq_decide_eq]

/-- What a logic instruction answers, for a result whose bits are `bits`. -/
theorem finishLogic_results (s : State) (d : Reg) (r : Byte) {bits : Nat → Bool} (hbits : ∀ n, r.getLsbD n = bits n) :
    ∃ t, finishLogic s d r = .next t ∧ (∀ n, (t.reg d).getLsbD n = bits n) ∧ LogicFlags (t.reg d) t ∧
      t.pc = s.pcPlus 1 ∧ OnlyChanged [d] logicFlags s t := by
  refine ⟨_, finishReg_eq _ _ _ _, ?_, ?_, afterReg_pc _ _ _ _,
    onlyChanged_afterReg _ _ _ _ _ (setFlagsLogic_keeps _ _)⟩
  · rwa [afterReg_reg_same]
  · rw [afterReg_reg_same]
    exact logicFlags_of_setFlagsLogic (afterReg_flag _ _ _ _)

/-- CBR's mask `$FF - K` is the complement of K (R137), so the AND with it clears the bits of K. -/
theorem getLsbD_and_ff_sub (a K : Byte) (n : Nat) : (a &&& (0xFF - K)).getLsbD n = (a.getLsbD n && !K.getLsbD n) := by
  have hK : 0xFF - K = ~~~K := BitVec.allOnes_sub_eq_not K
  rw [hK, BitVec.getLsbD_and, BitVec.getLsbD_not]
  by_cases hn : n < 8
  · simp [hn]
  · simp [BitVec.getLsbD_of_ge a n (by omega)]

/-- Settles O14: each instruction is `finishLogic` of its bitwise result. -/
theorem logicResults : Obligations.logic_results := fun s d _ _ =>
  ⟨finishLogic_results s d _ fun _ => BitVec.getLsbD_and,
    finishLogic_results s d _ fun _ => BitVec.getLsbD_and,
    finishLogic_results s d _ fun _ => BitVec.getLsbD_or,
    finishLogic_results s d _ fun _ => BitVec.getLsbD_or,
    finishLogic_results s d _ fun _ => BitVec.getLsbD_xor,
    finishLogic_results s d _ fun _ => BitVec.getLsbD_or,
    finishLogic_results s d _ fun _ => getLsbD_and_ff_sub _ _ _⟩

/-! ### LSR, ROR, ASR and SWAP (R282, R284 to R286) -/

/-- Two bit fields side by side are their values, the upper one scaled. -/
theorem toNat_append_eq {m n : Nat} (x : BitVec m) (y : BitVec n) : (x ++ y).toNat = 2 ^ n * x.toNat + y.toNat := by
  rw [BitVec.toNat_append, ← Nat.shiftLeft_add_eq_or_of_lt y.isLt, Nat.shiftLeft_eq, Nat.mul_comm]

theorem shiftRightIn_toNat (top : Bool) (a : Byte) :
    (shiftRightIn top a).toNat = 128 * top.toNat + a.toNat / 2 := by
  have ha := a.isLt
  rw [shiftRightIn, toNat_append_eq, BitVec.toNat_ofBool, BitVec.extractLsb'_toNat, Nat.shiftRight_eq_div_pow]
  omega

/-- Keeping the sign bit halves the signed value, rounding down. -/
theorem shiftRightIn_msb_toInt (a : Byte) : (shiftRightIn a.msb a).toInt = a.toInt / 2 := by
  have ha := a.isLt
  have hr := shiftRightIn_toNat a.msb a
  rw [msb_eq_getLsbD_seven, getLsbD_seven] at hr ⊢
  rw [toInt_byte, toInt_byte, hr]
  by_cases h : 128 ≤ a.toNat
  · simp only [h, decide_true, Bool.toNat_true, if_true]
    omega
  · simp only [h, decide_false, Bool.toNat_false, if_false]
    omega

theorem swapNibbles_toNat (a : Byte) :
    (a.extractLsb' 0 4 ++ a.extractLsb' 4 4).toNat = 16 * (a.toNat % 16) + a.toNat / 16 := by
  have ha := a.isLt
  rw [toNat_append_eq, BitVec.extractLsb'_toNat, BitVec.extractLsb'_toNat, Nat.shiftRight_eq_div_pow,
    Nat.shiftRight_eq_div_pow]
  omega

theorem shiftRightFlags_of_setFlagsShiftRight {t : State} {x a r : Byte}
    (ht : ∀ f, t.flag f = getFlag (setFlagsShiftRight x r (a.getLsbD 0)) f) : ShiftRightFlags a r t := by
  unfold ShiftRightFlags
  rw [← msb_eq_getLsbD_seven]
  simp [ht, getFlag_setFlagsShiftRight, Bool.beq_eq_decide_eq]

/-- What a right shift with `top` entering at bit 7 answers. -/
theorem finishShiftRight_results (s : State) (d : Reg) (top : Bool) :
    ∃ t, finishShiftRight s d top = .next t ∧ t.reg d = shiftRightIn top (s.reg d) ∧
      ShiftRightFlags (s.reg d) (t.reg d) t ∧ t.pc = s.pcPlus 1 ∧ OnlyChanged [d] wordFlags s t := by
  refine ⟨_, finishReg_eq _ _ _ _, afterReg_reg_same _ _ _ _, ?_, afterReg_pc _ _ _ _,
    onlyChanged_afterReg _ _ _ _ _ (setFlagsShiftRight_keeps _ _ _)⟩
  rw [afterReg_reg_same]
  exact shiftRightFlags_of_setFlagsShiftRight (afterReg_flag _ _ _ _)

/-- Settles O20: three right shifts that differ in the bit entering at bit 7 (0, the old carry, the sign), and SWAP, which
writes no flag. -/
theorem shiftRightAndSwapResults : Obligations.shift_right_and_swap_results := by
  intro s d
  refine ⟨?lsr, ?ror, ?asr, ?swap⟩
  case lsr =>
    obtain ⟨t, ht, hreg, hrest⟩ := finishShiftRight_results s d false
    exact ⟨t, ht, by simp [hreg, shiftRightIn_toNat], hrest⟩
  case ror =>
    obtain ⟨t, ht, hreg, hrest⟩ := finishShiftRight_results s d (s.flag .C)
    exact ⟨t, ht, by rw [hreg, shiftRightIn_toNat], hrest⟩
  case asr =>
    obtain ⟨t, ht, hreg, hrest⟩ := finishShiftRight_results s d (s.reg d).msb
    exact ⟨t, ht, by rw [hreg, shiftRightIn_msb_toInt], hrest⟩
  case swap =>
    refine ⟨_, finishReg_eq _ _ _ _, ?_, afterReg_pc _ _ _ _, onlyChanged_afterReg _ _ _ _ _ fun _ _ => rfl⟩
    rw [afterReg_reg_same, swapNibbles_toNat]

end Sys2Proof.Machine

/-! The invariant and the flags: what one instruction keeps, whatever it is, and the obligations O56, O57 and O59. An
instruction that stores nothing is shown once to be `Quiet`; one that stores, or writes program memory, is shown to keep the
bounds of the invariant (`Keeps`). -/

namespace Sys2Proof.Machine

/-! ### What each flag computation leaves -/

theorem setFlag_keeps (x : Byte) (g : Flag) (v : Bool) (f : Flag) (hf : f ∉ [g]) :
    getFlag (setFlag x g v) f = getFlag x f :=
  getFlag_setFlag_ne x v (by simpa using hf)

theorem setNZS_keeps (x r : Byte) (v : Bool) (f : Flag) (hf : f ∉ logicFlags) :
    getFlag (setNZS x r v) f = getFlag x f := by
  simp only [logicFlags, List.mem_cons, not_or] at hf
  simp only [getFlag_setNZS, hf, if_false]

theorem setFlagsNeg_keeps (x a r : Byte) (f : Flag) (hf : f ∉ arithFlags) :
    getFlag (setFlagsNeg x a r) f = getFlag x f := by
  simp only [arithFlags, List.mem_cons, not_or] at hf
  simp only [setFlagsNeg, getFlag_setNZS, getFlag_setFlag, hf, if_false]

theorem setFlagsShiftLeft_keeps (x a r : Byte) (f : Flag) (hf : f ∉ arithFlags) :
    getFlag (setFlagsShiftLeft x a r) f = getFlag x f := by
  simp only [arithFlags, List.mem_cons, not_or] at hf
  simp only [setFlagsShiftLeft, getFlag_setNZS, getFlag_setFlag, hf, if_false]

theorem setFlagsWord_keeps (x : Byte) (r : Word) (v c : Bool) (f : Flag) (hf : f ∉ wordFlags) :
    getFlag (setFlagsWord x r v c) f = getFlag x f := by
  simp only [wordFlags, List.mem_cons, not_or] at hf
  simp only [setFlagsWord, getFlag_setFlag, hf, if_false]

theorem setFlagsMultiply_keeps (x : Byte) (p r : Word) (f : Flag) (hf : f ∉ [Flag.Z, Flag.C]) :
    getFlag (setFlagsMultiply x p r) f = getFlag x f := by
  simp only [List.mem_cons, not_or] at hf
  simp only [setFlagsMultiply, getFlag_setFlag, hf, if_false]

/-- The flags of COM (R134). -/
theorem complementFlags_keep (x r : Byte) (f : Flag) (hf : f ∉ wordFlags) :
    getFlag (setFlag (setNZS x r false) .C true) f = getFlag x f := by
  simp only [wordFlags, List.mem_cons, not_or] at hf
  simp only [getFlag_setNZS, getFlag_setFlag, hf, if_false]

/-! ### The part of the invariant that holds inside a step

An instruction can clear I while a hold-off is pending, so the two clauses of `Inv` about the hold-off are settled between
instructions only. -/

/-- The invariant but for its two clauses about the hold-off. -/
def Bounded (s : State) : Prop := Inv { s with holdoff := false, sleeping := false }

theorem Inv.bounded {s : State} (h : Inv s) : Bounded s :=
  { h with holdoff_enabled := nofun, sleeping_free := nofun }

theorem Bounded.awake {s : State} (h : Bounded s) : Inv { s with holdoff := false, sleeping := false } := h

/-- What every operation of an instruction keeps on the way from `s` to `t`, stores included. -/
structure Keeps (s t : State) : Prop where
  bounded : Bounded s → Bounded t
  cfg : t.cfg = s.cfg
  sleeping : t.sleeping = s.sleeping
  holdoff : t.holdoff = s.holdoff

/-- The frame of an operation that stores nothing and writes at most the flags listed. -/
structure Quiet (flags : List Flag) (s t : State) : Prop extends Keeps s t where
  flags : SameFlagsBut flags s t
  memory : SameMemory s t

section Frames

variable {s t u : State} {flags : List Flag}

theorem Keeps.refl (s : State) : Keeps s s := ⟨id, rfl, rfl, rfl⟩

theorem Keeps.trans (h : Keeps s t) (k : Keeps t u) : Keeps s u :=
  ⟨k.bounded ∘ h.bounded, k.cfg.trans h.cfg, k.sleeping.trans h.sleeping, k.holdoff.trans h.holdoff⟩

theorem SameMemory.trans (h : SameMemory s t) (k : SameMemory t u) : SameMemory s u := by
  obtain ⟨hs, hi, hp, hb⟩ := h
  obtain ⟨ks, ki, kp, kb⟩ := k
  exact ⟨fun a => (ks a).trans (hs a), fun a => (ki a).trans (hi a), fun a => (kp a).trans (hp a),
    fun a => (kb a).trans (hb a)⟩

theorem Quiet.refl (s : State) : Quiet flags s s := ⟨Keeps.refl s, fun _ _ => rfl, SameMemory.refl s⟩

theorem Quiet.trans (h : Quiet flags s t) (k : Quiet flags t u) : Quiet flags s u :=
  ⟨h.toKeeps.trans k.toKeeps, fun f hf => (k.flags f hf).trans (h.flags f hf), h.memory.trans k.memory⟩

/-! ### The updates of the core's registers -/

/-- The fields that no clause of the invariant speaks of can take any value. -/
theorem Keeps.setUnbounded (s : State) (regs : Vector Byte 32) (eind spmcr mcucr : Byte) (blbits : Word) (pending : List Nat)
    (resetDemanded : Bool) (watchdog device freeCount : Nat) :
    Keeps s { s with regs, eind, spmcr, mcucr, blbits, pending, resetDemanded, watchdog, device, freeCount } :=
  ⟨fun h => { h.awake with }, rfl, rfl, rfl⟩

theorem Keeps.setReg (s : State) (d : Reg) (v : Byte) : Keeps s (s.setReg d v) := Keeps.setUnbounded s ..

theorem Quiet.setReg (s : State) (d : Reg) (v : Byte) : Quiet flags s (s.setReg d v) :=
  ⟨Keeps.setReg s d v, fun _ _ => rfl, SameMemory.refl s⟩

theorem Quiet.setPair (s : State) (d : Reg) (v : Word) : Quiet flags s (s.setPair d v) :=
  (Quiet.setReg s _ _).trans (Quiet.setReg _ _ _)

theorem Keeps.setSreg (s : State) (x : Byte) : Keeps s (s.setSreg x) :=
  ⟨fun h => { h.awake with holdoff_enabled := nofun }, rfl, rfl, rfl⟩

theorem Quiet.setSreg (s : State) (x : Byte) (h : ∀ f, f ∉ flags → getFlag x f = s.flag f) :
    Quiet flags s (s.setSreg x) :=
  ⟨Keeps.setSreg s x, h, SameMemory.refl s⟩

theorem Keeps.setPc (s : State) {p : PcWord} (hp : p.toNat < 2 ^ s.cfg.pcBits) : Keeps s (s.setPc p) :=
  ⟨fun h => { h.awake with pc_range := hp }, rfl, rfl, rfl⟩

theorem Keeps.advance (s : State) (n : Nat) : Keeps s (s.advance n) := Keeps.setPc s (wrapPc_lt _ _)

theorem Quiet.setPc (s : State) {p : PcWord} (hp : p.toNat < 2 ^ s.cfg.pcBits) : Quiet flags s (s.setPc p) :=
  ⟨Keeps.setPc s hp, fun _ _ => rfl, SameMemory.refl s⟩

theorem Quiet.advance (s : State) (n : Nat) : Quiet flags s (s.advance n) := Quiet.setPc s (wrapPc_lt _ _)

theorem Keeps.setSp (s : State) {v : Word} (hv : Bounded s → s.cfg.spWidth = .bits8 → v.toNat < 256) :
    Keeps s (s.setSp v) :=
  ⟨fun h => { h.awake with sp_range := hv h }, rfl, rfl, rfl⟩

theorem Quiet.setDevicePart (s : State) (p : DevicePart) : Quiet flags s (s.setDevicePart p) :=
  ⟨Keeps.setUnbounded s .., fun _ _ => rfl, SameMemory.refl s⟩

theorem wrapSp_lt {cfg : Config} (h : cfg.spWidth = .bits8) (v : Word) : (wrapSp cfg v).toNat < 256 := by
  simp only [wrapSp, h, BitVec.toNat_and]
  exact lt_of_le_of_lt Nat.and_le_right (by decide)

theorem Quiet.setSp_wrapSp (s : State) (v : Word) : Quiet flags s (s.setSp (wrapSp s.cfg v)) :=
  ⟨Keeps.setSp s fun _ h => wrapSp_lt h v, fun _ _ => rfl, SameMemory.refl s⟩

theorem Keeps.setRamp (s : State) (p : Ptr) (v : Byte) : Keeps s (p.setRamp s v) := by
  cases p
  case X => exact ⟨fun h => { h.awake with rampx_range := rampMask_lt _ _ }, rfl, rfl, rfl⟩
  case Y => exact ⟨fun h => { h.awake with rampy_range := rampMask_lt _ _ }, rfl, rfl, rfl⟩
  case Z => exact ⟨fun h => { h.awake with rampz_range := rampMask_lt _ _ }, rfl, rfl, rfl⟩

theorem Quiet.setRamp (s : State) (p : Ptr) (v : Byte) : Quiet flags s (p.setRamp s v) := by
  cases p <;> exact ⟨Keeps.setRamp s _ v, fun _ _ => rfl, SameMemory.refl s⟩

theorem Quiet.ptrSet (s : State) (p : Ptr) (v : Nat) : Quiet flags s (Machine.ptrSet s p v) := by
  rcases ptrSet_cases s p v with ⟨-, e⟩ | ⟨-, e⟩ | ⟨-, e⟩ <;> rw [e]
  · exact Quiet.setReg _ _ _
  · exact Quiet.setPair _ _ _
  · exact (Quiet.setPair _ _ _).trans (Quiet.setRamp _ _ _)

theorem Keeps.ptrSet (s : State) (p : Ptr) (v : Nat) : Keeps s (Machine.ptrSet s p v) :=
  (Quiet.ptrSet (flags := []) s p v).toKeeps

/-! ### Reads -/

theorem ioRead_quiet (s : State) (A : BitVec 6) : Quiet flags s (ioRead s A).2 := by
  rcases ioRead_state s A with ⟨-, e⟩ | ⟨-, e⟩ <;> rw [e]
  · exact Quiet.refl s
  · exact Quiet.setDevicePart s _

theorem memRead_quiet {a : Nat} {b : Byte} (h : memRead s a = .next (b, t)) : Quiet flags s t := by
  obtain ⟨-, rfl | ⟨p, rfl⟩⟩ := memRead_next h
  · exact Quiet.refl _
  · exact Quiet.setDevicePart s p

theorem pop8_quiet {b : Byte} (h : pop8 s = .next (b, t)) : Quiet flags s t := by
  obtain ⟨-, hr⟩ := pop8_next h
  exact (Quiet.setSp_wrapSp s _).trans (memRead_quiet hr)

/-- A popped return address also fits the program counter. -/
theorem popPc_quiet {a : PcWord} (h : popPc s = .next (a, t)) : Quiet flags s t ∧ a.toNat < 2 ^ t.cfg.pcBits := by
  obtain ⟨x, y, z, hx, hy, hz, rfl, rfl⟩ := popPc_next h
  have hsx : Quiet flags s x.2 := by
    split at hx
    · exact pop8_quiet hx
    · cases hx; exact Quiet.refl s
  have hst : Quiet flags s z.2 := (hsx.trans (pop8_quiet hy)).trans (pop8_quiet hz)
  exact ⟨hst, hst.cfg ▸ wrapPc_lt _ _⟩

/-! ### The shapes that the instructions which store nothing share -/

theorem finishReg_quiet {d : Reg} {r x : Byte} (hx : ∀ f, f ∉ flags → getFlag x f = s.flag f)
    (h : finishReg s d r x = .next t) : Quiet flags s t := by
  cases h
  exact ((Quiet.setReg s d r).trans (Quiet.setSreg _ x hx)).trans (Quiet.advance _ 1)

theorem finishFlags_quiet {x : Byte} (hx : ∀ f, f ∉ flags → getFlag x f = s.flag f)
    (h : finishFlags s x = .next t) : Quiet flags s t := by
  cases h
  exact (Quiet.setSreg s x hx).trans (Quiet.advance _ 1)

theorem finishWord_quiet {d : Reg} {r : Word} {v c : Bool} (h : finishWord s d r v c = .next t) : Quiet wordFlags s t := by
  cases h
  exact ((Quiet.setPair s d r).trans (Quiet.setSreg _ _ (setFlagsWord_keeps _ r v c))).trans (Quiet.advance _ 1)

theorem finishMultiply_quiet {p r : Word} (h : finishMultiply s p r = .next t) : Quiet [.Z, .C] s t := by
  cases h
  exact ((Quiet.setPair s 0 r).trans (Quiet.setSreg _ _ (setFlagsMultiply_keeps _ p r))).trans (Quiet.advance _ 1)

theorem writeFlag_quiet {f : Flag} {v : Bool} (h : writeFlag f v s = .next t) : Quiet [f] s t :=
  finishFlags_quiet (setFlag_keeps _ f v) h

theorem branchIf_quiet {c : Bool} {k : BitVec 7} (h : branchIf c k s = .next t) : Quiet flags s t := by
  unfold branchIf at h
  split at h <;> cases h
  · exact Quiet.setPc s (relTarget_lt s _)
  · exact Quiet.advance s 1

theorem skipIf_quiet {c : Bool} (h : skipIf c s = .next t) : Quiet flags s t := by
  obtain ⟨-, rfl⟩ | ⟨-, n, -, rfl⟩ := skipIf_next h
  · exact Quiet.advance s 1
  · exact Quiet.advance s n

theorem loadByte_quiet {d : Reg} {a n : Nat} (h : loadByte s d a n = .next t) : Quiet flags s t := by
  obtain ⟨b, u, hr, rfl⟩ := loadByte_next h
  exact ((memRead_quiet hr).trans (Quiet.setReg u d b)).trans (Quiet.advance _ n)

theorem loadInc_quiet {p : Ptr} {d : Reg} {i : Instr} (h : loadInc s p d i = .next t) : Quiet flags s t := by
  obtain ⟨-, -, b, u, hr, rfl⟩ := loadInc_next h
  exact (((memRead_quiet hr).trans (Quiet.setReg u d b)).trans (Quiet.ptrSet _ p _)).trans (Quiet.advance _ 1)

theorem loadDec_quiet {p : Ptr} {d : Reg} {i : Instr} (h : loadDec s p d i = .next t) : Quiet flags s t := by
  obtain ⟨-, -, b, u, hr, rfl⟩ := loadDec_next h
  exact (((Quiet.ptrSet s p _).trans (memRead_quiet hr)).trans (Quiet.setReg u d b)).trans (Quiet.advance _ 1)

theorem loadProgram_quiet {d : Reg} {b : Nat} (h : loadProgram s d b = .next t) : Quiet flags s t := by
  obtain ⟨-, rfl⟩ := loadProgram_next h
  exact (Quiet.setReg s d _).trans (Quiet.advance _ 1)

theorem execLpmInc_quiet {d : Reg} (h : execLpmInc d s = .next t) : Quiet flags s t := by
  unfold execLpmInc at h
  split at h
  · cases h
  · obtain ⟨v, -, e⟩ := andThen_eq_next.1 h
    cases e
    exact ((Quiet.setReg s d v).trans (Quiet.setPair _ _ _)).trans (Quiet.advance _ 1)

theorem execElpmInc_quiet {d : Reg} (h : execElpmInc d s = .next t) : Quiet flags s t := by
  unfold execElpmInc at h
  split at h
  · cases h
  · obtain ⟨v, -, e⟩ := andThen_eq_next.1 h
    cases e
    exact (((Quiet.setReg s d v).trans (Quiet.setPair _ _ _)).trans (Quiet.setRamp _ .Z _)).trans (Quiet.advance _ 1)

theorem execPop_quiet {d : Reg} (h : execPop d s = .next t) : Quiet flags s t := by
  obtain ⟨r, hr, e⟩ := andThen_eq_next.1 h
  cases e
  exact ((pop8_quiet hr).trans (Quiet.setReg _ d _)).trans (Quiet.advance _ 1)

theorem returnFromSubroutine_quiet (h : returnFromSubroutine s = .next t) : Quiet flags s t := by
  obtain ⟨a, u, hpop, rfl⟩ := returnFromSubroutine_next h
  obtain ⟨hq, ha⟩ := popPc_quiet hpop
  exact hq.trans (Quiet.setPc u ha)

theorem returnFromInterrupt_quiet (h : returnFromInterrupt s = .next t) : Quiet [.I] s t := by
  obtain ⟨a, u, hpop, rfl⟩ := returnFromInterrupt_next h
  obtain ⟨hq, ha⟩ := popPc_quiet hpop
  exact (hq.trans (Quiet.setSreg u _ (setFlag_keeps _ .I true))).trans (Quiet.setPc _ ha)

theorem execWdr_quiet (h : execWdr s = .next t) : Quiet flags s t := by
  cases h
  exact (Quiet.advance s 1).trans ⟨Keeps.setUnbounded _ .., fun _ _ => rfl, SameMemory.refl _⟩

/-! ### Every instruction that stores nothing -/

/-- An instruction that stores neither in the data space nor in program memory is quiet but for the flags its page lists. SLEEP,
which may also put the core to sleep, is left to `execSleep_next`. -/
theorem exec_quiet {i : Instr} (hdata : storesData i = false) (hprog : storesProgram i = false) (hsleep : i ≠ .sleep)
    (h : exec i s = .next t) : Quiet (flagsWritten i) s t := by
  cases i with
  | add | adc | sub | subi => exact finishReg_quiet (setFlagsAddSub_keeps _ _) h
  | sbc | sbci => exact finishReg_quiet (setFlagsSubCarry_keeps _ _) h
  | neg => exact finishReg_quiet (setFlagsNeg_keeps _ _ _) h
  | lsl | rol => exact finishReg_quiet (setFlagsShiftLeft_keeps _ _ _) h
  | lsr | ror | asr => exact finishReg_quiet (setFlagsShiftRight_keeps _ _ _) h
  | com => exact finishReg_quiet (complementFlags_keep _ _) h
  | land | andi | lor | ori | eor | sbr | cbr | clr => exact finishReg_quiet (setFlagsLogic_keeps _ _) h
  | inc | dec => exact finishReg_quiet (setNZS_keeps _ _ _) h
  | ser | swap => exact finishReg_quiet (fun _ _ => rfl) h
  | adiw | sbiw => exact finishWord_quiet h
  | mul | muls | mulsu | fmul | fmuls | fmulsu => exact finishMultiply_quiet h
  | cp | cpi => exact finishFlags_quiet (setFlagsAddSub_keeps _ _) h
  | cpc => exact finishFlags_quiet (setFlagsSubCarry_keeps _ _) h
  | tst => exact finishFlags_quiet (setFlagsLogic_keeps _ _) h
  | bst => exact finishFlags_quiet (setFlag_keeps _ _ _) h
  | bset | bclr | sec | clc | sen | cln | sez | clz | sei | cli | ses | cls | sev | clv | setT | clt | seh | clh =>
    exact writeFlag_quiet h
  | rjmp => cases h; exact Quiet.setPc s (relTarget_lt s _)
  | ijmp | eijmp | jmp => cases h; exact Quiet.setPc s (wrapPc_lt _ _)
  | ret => exact returnFromSubroutine_quiet h
  | reti => exact returnFromInterrupt_quiet h
  | cpse | sbrc | sbrs => exact skipIf_quiet h
  | sbic | sbis => exact (ioRead_quiet s _).trans (skipIf_quiet h)
  | brbs | brbc | breq | brne | brcs | brcc | brsh | brlo | brmi | brpl | brge | brlt | brhs | brhc | brts | brtc | brvs
  | brvc | brie | brid => exact branchIf_quiet h
  | mov | ldi | bld => cases h; exact (Quiet.setReg s _ _).trans (Quiet.advance _ 1)
  | movw => cases h; exact (Quiet.setPair s _ _).trans (Quiet.advance _ 1)
  | lds | ldX | ldY | lddY | ldZ | lddZ => exact loadByte_quiet h
  | ldXInc | ldYInc | ldZInc => exact loadInc_quiet h
  | ldXDec | ldYDec | ldZDec => exact loadDec_quiet h
  | lpmR0 | lpm | elpmR0 | elpm => exact loadProgram_quiet h
  | lpmInc => exact execLpmInc_quiet h
  | elpmInc => exact execElpmInc_quiet h
  | ioIn => cases h; exact ((ioRead_quiet s _).trans (Quiet.setReg _ _ _)).trans (Quiet.advance _ 1)
  | pop => exact execPop_quiet h
  | nop => cases h; exact Quiet.advance s 1
  | wdr => exact execWdr_quiet h
  | sleep => exact absurd rfl hsleep
  | spm | espm => cases hprog
  | _ => cases hdata

/-! ### Writes of the data space and of the stack -/

/-- A write at SPL leaves the high byte of SP, which is 0 where SP has eight bits. -/
theorem writeSpl_toNat_lt {sp : Word} {v : Byte} (h : sp.toNat < 256) : (sp.extractLsb' 8 8 ++ v).toNat < 256 := by
  have hv := v.isLt
  rw [toNat_append_eq, BitVec.extractLsb'_toNat, Nat.shiftRight_eq_div_pow]
  omega

theorem Keeps.writeIo (s : State) (A : BitVec 6) (v : Byte) : Keeps s { s with io := Memory.write .io s.io A.toNat v } := by
  refine ⟨fun h => ?_, rfl, rfl, rfl⟩
  have hi := h.awake
  refine { hi with io_wf := Memory.wf_write _ _ _ _ hi.io_wf, io_range := fun c hc => ?_ }
  rcases Memory.mem_write hc with rfl | hc
  · exact A.isLt
  · exact hi.io_range c hc

theorem Keeps.writeSram (s : State) {a : Nat} (v : Byte) (ha : locate s.cfg a = .sram) :
    Keeps s { s with sram := Memory.write .sram s.sram a v } := by
  refine ⟨fun h => ?_, rfl, rfl, rfl⟩
  have hi := h.awake
  refine { hi with sram_wf := Memory.wf_write _ _ _ _ hi.sram_wf, sram_range := fun c hc => ?_ }
  rcases Memory.mem_write hc with rfl | hc
  · exact (locate_sram ha).2
  · exact hi.sram_range c hc

theorem ioWrite_keeps (s : State) (A : BitVec 6) (v : Byte) : Keeps s (ioWrite s A v) := by
  rcases ioWrite_cases s A v with e | e | ⟨hw, e⟩ | e | e | e | e | e | e | e | ⟨-, e⟩ | e <;> rw [e]
  · exact Keeps.setSreg s v
  · exact Keeps.setSp s fun h hw => writeSpl_toNat_lt (h.awake.sp_range hw)
  · exact Keeps.setSp s fun _ hn => nomatch hw.symm.trans hn
  · exact Keeps.setRamp s .X v
  · exact Keeps.setRamp s .Y v
  · exact Keeps.setRamp s .Z v
  · exact ⟨fun h => { h.awake with rampd_range := rampMask_lt _ _ }, rfl, rfl, rfl⟩
  · exact Keeps.setUnbounded s ..
  · exact Keeps.setUnbounded s ..
  · exact Keeps.setUnbounded s ..
  · exact Keeps.setUnbounded s ..
  · exact Keeps.writeIo s A v

theorem ioSetBit_keeps (s : State) (A : BitVec 6) (b : BitVec 3) (v : Bool) : Keeps s (ioSetBit s A b v) := by
  rcases ioSetBit_cases s A b v with ⟨-, e⟩ | ⟨-, e⟩ <;> rw [e]
  · exact Keeps.setUnbounded s ..
  · exact (Quiet.toKeeps (flags := []) (ioRead_quiet s A)).trans (ioWrite_keeps _ A _)

theorem memWrite_keeps {a : Nat} {v : Byte} (h : memWrite s a v = .next t) : Keeps s t := by
  obtain ⟨d, -, rfl⟩ | ⟨A, -, rfl⟩ | ⟨ha, rfl⟩ := memWrite_next h
  · exact Keeps.setReg s d v
  · exact ioWrite_keeps s A v
  · exact Keeps.writeSram s v ha

theorem push8_keeps {v : Byte} (h : push8 s v = .next t) : Keeps s t := by
  obtain ⟨-, u, hu, rfl⟩ := push8_next h
  have hsu := memWrite_keeps hu
  exact hsu.trans (Keeps.setSp u fun _ hn => wrapSp_lt (hsu.cfg ▸ hn) _)

theorem pushPc_keeps {a : PcWord} (h : pushPc s a = .next t) : Keeps s t := by
  obtain ⟨u, v, hu, hv, ht⟩ := pushPc_next h
  have hsv : Keeps s v := (push8_keeps hu).trans (push8_keeps hv)
  split at ht
  · exact hsv.trans (push8_keeps ht)
  · cases ht; exact hsv

/-! ### The shapes that the instructions which store share -/

theorem storeByte_keeps {a n : Nat} {v : Byte} (h : storeByte s a v n = .next t) : Keeps s t := by
  obtain ⟨u, hu, rfl⟩ := storeByte_next h
  exact (memWrite_keeps hu).trans (Keeps.advance u n)

theorem storeInc_keeps {p : Ptr} {r : Reg} {i : Instr} (h : storeInc s p r i = .next t) : Keeps s t := by
  obtain ⟨-, -, u, hu, rfl⟩ := storeInc_next h
  exact ((memWrite_keeps hu).trans (Keeps.ptrSet u p _)).trans (Keeps.advance _ 1)

theorem storeDec_keeps {p : Ptr} {r : Reg} {i : Instr} (h : storeDec s p r i = .next t) : Keeps s t := by
  obtain ⟨-, -, u, hu, rfl⟩ := storeDec_next h
  exact ((Keeps.ptrSet s p _).trans (memWrite_keeps hu)).trans (Keeps.advance u 1)

theorem execPush_keeps {r : Reg} (h : execPush r s = .next t) : Keeps s t := by
  obtain ⟨u, hu, e⟩ := andThen_eq_next.1 h
  cases e
  exact (push8_keeps hu).trans (Keeps.advance u 1)

theorem callTo_keeps {r a : PcWord} (ha : a.toNat < 2 ^ s.cfg.pcBits) (h : callTo s r a = .next t) : Keeps s t := by
  obtain ⟨u, hu, rfl⟩ := callTo_next h
  have hsu := pushPc_keeps hu
  exact hsu.trans (Keeps.setPc u (hsu.cfg ▸ ha))

/-! ### Program memory -/

theorem Memory.mem_writeWord {k : Space} {m : Memory} {w : Nat} {v : Word} {c : Host.Cell}
    (h : c ∈ Memory.writeWord k m w v) : c.1 / 2 = w ∨ c ∈ m := by
  rcases Memory.mem_write h with rfl | h
  · exact .inl (by change (2 * w + 1) / 2 = w; omega)
  · rcases Memory.mem_write h with rfl | h
    · exact .inl (Nat.mul_div_cancel_left w (by decide))
    · exact .inr h

theorem Memory.mem_writeWords {k : Space} {m : Memory} {base n : Nat} {f : Nat → Word} {c : Host.Cell}
    (h : c ∈ Memory.writeWords k m base n f) : c.1 / 2 < base + n ∨ c ∈ m := by
  induction n with
  | zero => exact .inr h
  | succ n ih =>
    rw [Memory.writeWords_succ] at h
    rcases Memory.mem_writeWord h with hc | h
    · exact .inl (by omega)
    · exact (ih h).imp_left fun hc => by omega

/-- A change of program memory that keeps its canonical form and lists only words that exist. -/
theorem Keeps.writeProg (s : State) {m : Memory} (hwf : Memory.wf .prog s.prog = true → Memory.wf .prog m = true)
    (hmem : ∀ c ∈ m, c.1 / 2 < s.cfg.flashWords ∨ c ∈ s.prog) : Keeps s { s with prog := m } := by
  refine ⟨fun h => ?_, rfl, rfl, rfl⟩
  have hi := h.awake
  refine { hi with prog_wf := hwf hi.prog_wf, prog_range := fun c hc => ?_ }
  rcases hmem c hc with hc | hc
  · change c.1 < 2 * s.cfg.flashWords
    omega
  · exact hi.prog_range c hc

theorem Keeps.fillBuffer (s : State) (w : Nat) (v : Word) :
    Keeps s { s with pageBuffer := Memory.writeWord .pageBuffer s.pageBuffer w v } :=
  ⟨fun h => { h.awake with pageBuffer_wf := Memory.wf_writeWord _ _ _ _ h.awake.pageBuffer_wf }, rfl, rfl, rfl⟩

theorem spmApply_keeps {dev : SpmDevice} {op : SpmOp} {m : Mnemonic} {z : Nat} (h : spmApply dev op m z s = .next t) :
    Keeps s t := by
  have hreach := spmReach_le s.cfg m
  obtain ⟨f, hpage, rfl⟩ | ⟨v, hword, rfl⟩ | ⟨w, v, rfl⟩ | rfl := spmApply_next h
  · exact Keeps.writeProg s (Memory.wf_writeWords _ _ _ _ _) fun c hc =>
      (Memory.mem_writeWords hc).imp_left fun hc => by omega
  · exact Keeps.writeProg s (Memory.wf_writeWord _ _ _ _) fun c hc =>
      (Memory.mem_writeWord hc).imp_left fun hc => by omega
  · exact Keeps.fillBuffer s w v
  · exact Keeps.setUnbounded s ..

theorem storeProgram_keeps {m : Mnemonic} {z : Nat} (h : storeProgram m z s = .next t) : Keeps s t := by
  obtain ⟨dev, op, u, -, -, hu, rfl⟩ := storeProgram_next h
  exact (spmApply_keeps hu).trans (Keeps.advance u 1)

theorem storeProgram_sreg {m : Mnemonic} {z : Nat} (h : storeProgram m z s = .next t) : t.sreg = s.sreg := by
  obtain ⟨dev, op, u, -, -, hu, rfl⟩ := storeProgram_next h
  obtain ⟨f, -, rfl⟩ | ⟨v, -, rfl⟩ | ⟨w, v, rfl⟩ | rfl := spmApply_next hu <;> rfl

/-! ### Every instruction -/

/-- SPM and ESPM leave SREG whole. -/
theorem exec_program_sreg {i : Instr} (hi : storesProgram i = true) (h : exec i s = .next t) : t.sreg = s.sreg := by
  cases i with
  | spm | espm => exact storeProgram_sreg h
  | _ => cases hi

/-- An instruction that stores in the data space or in program memory keeps the bounds. -/
theorem exec_stores_keeps {i : Instr} (hi : storesData i = true ∨ storesProgram i = true) (h : exec i s = .next t) :
    Keeps s t := by
  cases i with
  | sts | stX | stY | stdY | stZ | stdZ => exact storeByte_keeps h
  | stXInc | stYInc | stZInc => exact storeInc_keeps h
  | stXDec | stYDec | stZDec => exact storeDec_keeps h
  | ioOut => cases h; exact (ioWrite_keeps s _ _).trans (Keeps.advance _ 1)
  | sbi | cbi => cases h; exact (ioSetBit_keeps s _ _ _).trans (Keeps.advance _ 1)
  | push => exact execPush_keeps h
  | rcall => exact callTo_keeps (relTarget_lt s _) h
  | icall | eicall | call => exact callTo_keeps (wrapPc_lt _ _) h
  | spm | espm => exact storeProgram_keeps h
  | _ => rcases hi with hi | hi <;> cases hi

theorem exec_keeps {i : Instr} (hsleep : i ≠ .sleep) (h : exec i s = .next t) : Keeps s t := by
  cases hdata : storesData i
  · cases hprog : storesProgram i
    · exact (exec_quiet hdata hprog hsleep h).toKeeps
    · exact exec_stores_keeps (.inr hprog) h
  · exact exec_stores_keeps (.inl hdata) h

/-- SLEEP moves the program counter and may put the core to sleep (R312). -/
theorem execSleep_next (h : exec .sleep s = .next t) :
    t = { s.advance 1 with sleeping := s.sleeping || sleepHolds s } := by
  cases h; rfl

theorem exec_bounded {i : Instr} (h : exec i s = .next t) (hs : Bounded s) : Bounded t := by
  by_cases hi : i = .sleep
  · subst hi
    cases execSleep_next h
    exact (Keeps.advance s 1).bounded hs
  · exact (exec_keeps hi h).bounded hs

/-- After SEI, BSET 7 and RETI, I is set (R336). -/
theorem holdsOff_enables {i : Instr} (hi : holdsOff i = true) (h : exec i s = .next t) : t.flag .I = true := by
  cases i with
  | bset f =>
    obtain rfl : f = Flag.I := by simpa [holdsOff] using hi
    cases h
    exact getFlag_setFlag_same _ _ _
  | sei =>
    cases h
    exact getFlag_setFlag_same _ _ _
  | reti =>
    obtain ⟨a, u, -, rfl⟩ := returnFromInterrupt_next h
    exact getFlag_setFlag_same _ _ _
  | _ => cases hi

/-! ### Between instructions -/

/-- A hold-off that an instruction leaves goes with I set (R336, R342). -/
theorem holdoffAfter_enabled {i : Instr} (h : exec i s = .next t) (hh : holdoffAfter i s t = true) : t.flag .I = true := by
  simp only [holdoffAfter, Bool.or_eq_true, Bool.and_eq_true] at hh
  obtain hi | ⟨-, hI⟩ := hh
  · exact holdsOff_enables hi h
  · exact hI

/-- An instruction that leaves the core asleep is SLEEP, which leaves no hold-off (R350). -/
theorem holdoffAfter_sleeping {i : Instr} (hawake : s.sleeping = false) (h : exec i s = .next t) (ht : t.sleeping = true) :
    holdoffAfter i s t = false := by
  by_cases hi : i = .sleep
  · subst hi
    cases execSleep_next h
    exact Bool.not_and_self (s.flag .I)
  · rw [(exec_keeps hi h).sleeping, hawake] at ht
    cases ht

theorem afterInstruction_inv {i : Instr} (hs : Inv s) (hawake : s.sleeping = false) (h : exec i s = .next t) :
    Inv (afterInstruction i s t) :=
  { (exec_bounded h hs.bounded).awake with
    holdoff_enabled := holdoffAfter_enabled (t := t) h
    sleeping_free := holdoffAfter_sleeping (t := t) hawake h }

/-- The wait of a sleeping core changes the watchdog timer at most. -/
theorem tick_inv (hs : Inv s) : Inv (tick s) := { hs with }

/-- An interrupt is taken where no hold-off is pending, so clearing I leaves none behind. -/
theorem takeInterrupt_inv {n : Nat} (hs : Inv s) (hn : interruptToTake s = some n) (h : takeInterrupt n s = .next t) :
    Inv t := by
  obtain ⟨-, hfree, -, -, -⟩ := interruptToTake_some hn
  have hoff : s.holdoff = false := hfree.elim hs.sleeping_free id
  obtain ⟨u, hu, rfl⟩ := takeInterrupt_next h
  have hsu := pushPc_keeps hu
  have hbu := hsu.bounded hs.bounded
  have hpc : (vector s.cfg n).toNat < 2 ^ u.cfg.pcBits := hsu.cfg ▸ wrapPc_lt _ _
  have hoffu : u.holdoff = false := hsu.holdoff.trans hoff
  exact { hbu.awake with
    pc_range := hpc
    holdoff_enabled := fun hh => nomatch hoffu.symm.trans hh
    sleeping_free := nofun }

/-- The state after reset meets the invariant on every device whose program image does. -/
theorem powerOn_inv {cfg : Config} {image : Memory} (hwf : Memory.wf .prog image = true)
    (hrange : ∀ c ∈ image, c.1 < 2 * cfg.flashWords) : Inv (State.powerOn cfg image) where
  pc_range := wrapPc_lt cfg _
  sp_range _ := (by decide : (0 : Word).toNat < 256)
  rampx_range := Nat.two_pow_pos _
  rampy_range := Nat.two_pow_pos _
  rampz_range := Nat.two_pow_pos _
  rampd_range := Nat.two_pow_pos _
  sram_wf := rfl
  io_wf := rfl
  prog_wf := hwf
  pageBuffer_wf := rfl
  sram_range := nofun
  io_range := nofun
  prog_range := hrange
  holdoff_enabled := nofun
  sleeping_free := nofun

theorem deviceReset_inv (hs : Inv s) : Inv (deviceReset s) :=
  { powerOn_inv hs.prog_wf hs.prog_range with }

end Frames

/-! ### The obligations -/

/-- Settles O56: no program is placed, and an empty image meets the invariant. -/
theorem invariantAtReset : Obligations.invariant_at_reset := powerOn_inv rfl nofun

/-- Settles O57: the four things a step can be, a reset, an interrupt, a wait, one instruction, each keep the invariant. -/
theorem stepKeepsTheInvariant : Obligations.step_keeps_the_invariant := by
  intro s t hs h
  obtain ⟨-, rfl⟩ | ⟨-, n, u, hn, hu, rfl⟩ | ⟨-, -, -, rfl⟩ | ⟨-, -, hawake, i, u, -, hu, rfl⟩ := step_next h
  · exact deviceReset_inv hs
  · exact tick_inv (takeInterrupt_inv hs hn hu)
  · exact tick_inv hs
  · exact afterInstruction_inv hs hawake hu

/-- Settles O59: SPM, ESPM and SLEEP leave SREG whole, every other instruction that stores nothing is `Quiet`. -/
theorem flagsChangeOnlyAsListed : Obligations.flags_change_only_as_listed := by
  intro s t i hdata h
  cases hprog : storesProgram i
  · by_cases hi : i = .sleep
    · subst hi
      cases execSleep_next h
      exact fun _ _ => rfl
    · exact (exec_quiet hdata hprog hi h).flags
  · exact fun f _ => congrArg (getFlag · f) (exec_program_sreg hprog h)

end Sys2Proof.Machine
/-! What instructions leave in the memories, and the obligations O58 and O60: an instruction that stores nothing is `Quiet`
already; here are the stores and the pushes, which leave program memory, and SPM and ESPM, which leave SRAM and the I/O
locations. -/

namespace Sys2Proof.Machine

section MemoryFrames

variable {s t : State}

/-! ### Stores and pushes leave program memory -/

theorem ioWrite_prog (s : State) (A : BitVec 6) (v : Byte) : (ioWrite s A v).prog = s.prog := by
  obtain ⟨-, -, -, -, hprog, -⟩ := ioWrite_frame s A v
  exact hprog

theorem ioRead_prog (s : State) (A : BitVec 6) : (ioRead s A).2.prog = s.prog := by
  rcases ioRead_state s A with ⟨-, e⟩ | ⟨-, e⟩ <;> rw [e]
  rfl

theorem ioSetBit_prog (s : State) (A : BitVec 6) (b : BitVec 3) (v : Bool) : (ioSetBit s A b v).prog = s.prog := by
  rcases ioSetBit_cases s A b v with ⟨-, e⟩ | ⟨-, e⟩ <;> rw [e]
  · rfl
  · rw [ioWrite_prog, ioRead_prog]

theorem ptrSet_prog (s : State) (p : Ptr) (v : Nat) : (ptrSet s p v).prog = s.prog := by
  rcases ptrSet_cases s p v with ⟨-, e⟩ | ⟨-, e⟩ | ⟨-, e⟩ <;> rw [e]
  · rfl
  · rfl
  · cases p <;> rfl

theorem memWrite_prog {a : Nat} {v : Byte} (h : memWrite s a v = .next t) : t.prog = s.prog := by
  obtain ⟨d, -, rfl⟩ | ⟨A, -, rfl⟩ | ⟨-, rfl⟩ := memWrite_next h
  · rfl
  · exact ioWrite_prog s A v
  · rfl

theorem push8_prog {v : Byte} (h : push8 s v = .next t) : t.prog = s.prog := by
  obtain ⟨-, u, hu, rfl⟩ := push8_next h
  exact memWrite_prog (t := u) hu

theorem pushPc_prog {a : PcWord} (h : pushPc s a = .next t) : t.prog = s.prog := by
  obtain ⟨u, v, hu, hv, ht⟩ := pushPc_next h
  have hsv : v.prog = s.prog := (push8_prog hv).trans (push8_prog hu)
  split at ht
  · exact (push8_prog ht).trans hsv
  · cases ht; exact hsv

theorem storeByte_prog {a n : Nat} {v : Byte} (h : storeByte s a v n = .next t) : t.prog = s.prog := by
  obtain ⟨u, hu, rfl⟩ := storeByte_next h
  exact memWrite_prog (t := u) hu

theorem storeInc_prog {p : Ptr} {r : Reg} {i : Instr} (h : storeInc s p r i = .next t) : t.prog = s.prog := by
  obtain ⟨-, -, u, hu, rfl⟩ := storeInc_next h
  exact (ptrSet_prog u p _).trans (memWrite_prog hu)

theorem storeDec_prog {p : Ptr} {r : Reg} {i : Instr} (h : storeDec s p r i = .next t) : t.prog = s.prog := by
  obtain ⟨-, -, u, hu, rfl⟩ := storeDec_next h
  exact (memWrite_prog hu).trans (ptrSet_prog s p _)

theorem execPush_prog {r : Reg} (h : execPush r s = .next t) : t.prog = s.prog := by
  obtain ⟨u, hu, e⟩ := andThen_eq_next.1 h
  cases e
  exact push8_prog (t := u) hu

theorem callTo_prog {r a : PcWord} (h : callTo s r a = .next t) : t.prog = s.prog := by
  obtain ⟨u, hu, rfl⟩ := callTo_next h
  exact pushPc_prog (t := u) hu

/-- An instruction that stores in the data space leaves program memory (R85). -/
theorem exec_storesData_prog {i : Instr} (hi : storesData i = true) (h : exec i s = .next t) : t.prog = s.prog := by
  cases i with
  | sts | stX | stY | stdY | stZ | stdZ => exact storeByte_prog h
  | stXInc | stYInc | stZInc => exact storeInc_prog h
  | stXDec | stYDec | stZDec => exact storeDec_prog h
  | ioOut => cases h; exact ioWrite_prog s _ _
  | sbi | cbi => cases h; exact ioSetBit_prog s _ _ _
  | push => exact execPush_prog h
  | rcall | icall | eicall | call => exact callTo_prog h
  | _ => cases hi

/-! ### SPM and ESPM leave the data space -/

theorem storeProgram_data {m : Mnemonic} {z : Nat} (h : storeProgram m z s = .next t) :
    t.sram = s.sram ∧ t.io = s.io := by
  obtain ⟨dev, op, u, -, -, hu, rfl⟩ := storeProgram_next h
  obtain ⟨f, -, rfl⟩ | ⟨v, -, rfl⟩ | ⟨w, v, rfl⟩ | rfl := spmApply_next hu <;> exact ⟨rfl, rfl⟩

theorem exec_storesProgram_data {i : Instr} (hi : storesProgram i = true) (h : exec i s = .next t) :
    t.sram = s.sram ∧ t.io = s.io := by
  cases i with
  | spm | espm => exact storeProgram_data h
  | _ => cases hi

/-! ### Every instruction -/

/-- An instruction that stores neither in the data space nor in program memory leaves every memory, SLEEP included. -/
theorem exec_sameMemory {i : Instr} (hdata : storesData i = false) (hprog : storesProgram i = false)
    (h : exec i s = .next t) : SameMemory s t := by
  by_cases hi : i = .sleep
  · subst hi
    cases execSleep_next h
    exact SameMemory.refl s
  · exact (exec_quiet hdata hprog hi h).memory

theorem exec_programByte {i : Instr} (hprog : storesProgram i = false) (h : exec i s = .next t) (b : Nat) :
    programByte t b = programByte s b := by
  cases hdata : storesData i
  · obtain ⟨-, -, hp, -⟩ := exec_sameMemory hdata hprog h
    exact hp b
  · exact congrArg (Memory.read .prog · b) (exec_storesData_prog hdata h)

theorem takeInterrupt_prog {n : Nat} (h : takeInterrupt n s = .next t) : t.prog = s.prog := by
  obtain ⟨u, hu, rfl⟩ := takeInterrupt_next h
  exact pushPc_prog (t := u) hu

/-! ### The parameters -/

theorem exec_cfg {i : Instr} (h : exec i s = .next t) : t.cfg = s.cfg := by
  by_cases hi : i = .sleep
  · subst hi
    cases execSleep_next h
    rfl
  · exact (exec_keeps hi h).cfg

theorem takeInterrupt_cfg {n : Nat} (h : takeInterrupt n s = .next t) : t.cfg = s.cfg := by
  obtain ⟨u, hu, rfl⟩ := takeInterrupt_next h
  exact (pushPc_keeps hu).cfg

/-- A reset, an interrupt, a wait and one instruction each leave the parameters. -/
theorem step_cfg (h : step s = .next t) : t.cfg = s.cfg := by
  obtain ⟨-, rfl⟩ | ⟨-, n, u, -, hu, rfl⟩ | ⟨-, -, -, rfl⟩ | ⟨-, -, -, i, u, -, hu, rfl⟩ := step_next h
  · rfl
  · exact takeInterrupt_cfg (t := u) hu
  · rfl
  · exact exec_cfg (t := u) hu

end MemoryFrames

/-! ### The obligations -/

/-- Settles O58: what an instruction other than SPM and ESPM stores goes to the data space, an interrupt only pushes. -/
theorem programMemoryIsWrittenBySpmOnly : Obligations.program_memory_is_written_by_spm_only :=
  ⟨fun _ _ _ hprog h b => exec_programByte hprog h b,
    fun _ _ _ h b => congrArg (Memory.read .prog · b) (takeInterrupt_prog h),
    fun _ _ h => step_cfg h⟩

/-- Settles O60: an instruction that stores nothing leaves every memory, and SPM and ESPM leave these two. -/
theorem memoryChangesOnlyByStores : Obligations.memory_changes_only_by_stores := by
  intro s t i hdata h
  cases hprog : storesProgram i
  · obtain ⟨hsram, hio, -, -⟩ := exec_sameMemory hdata hprog h
    exact ⟨hsram, hio⟩
  · obtain ⟨hsram, hio⟩ := exec_storesProgram_data hprog h
    exact ⟨fun a => congrArg (Memory.read .sram · a) hsram, fun A => congrArg (Memory.read .io · A) hio⟩

end Sys2Proof.Machine
/-! Pushes and pops of several bytes, and the obligations O24 and O36. A return address is pushed and popped as a list of bytes,
so that what holds for every PCBYTES is one induction on the list. -/

namespace Sys2Proof.Machine

section Stack

variable {s t : State}

/-! ### The addresses of stack bytes -/

/-- `2^SPBITS` (R32). -/
def spMod (cfg : Config) : Nat :=
  match cfg.spWidth with
  | .bits8 => 256
  | .bits16 => 65536

theorem spMod_cases (cfg : Config) : spMod cfg = 256 ∨ spMod cfg = 65536 := by
  unfold spMod
  cases cfg.spWidth <;> simp

theorem wrapSp_toNat (cfg : Config) (v : Word) : (wrapSp cfg v).toNat = v.toNat % spMod cfg := by
  unfold wrapSp spMod
  cases cfg.spWidth
  case bits8 => exact Nat.and_two_pow_sub_one_eq_mod v.toNat 8
  case bits16 => exact (Nat.mod_eq_of_lt v.isLt).symm

theorem wrapSp_wrapSp_add (cfg : Config) (v k : Word) : wrapSp cfg (wrapSp cfg v + k) = wrapSp cfg (v + k) := by
  apply BitVec.eq_of_toNat_eq
  simp only [wrapSp_toNat, BitVec.toNat_add]
  rcases spMod_cases cfg with h | h <;> rw [h] <;> omega

theorem wrapSp_wrapSp (cfg : Config) (v : Word) : wrapSp cfg (wrapSp cfg v) = wrapSp cfg v := by
  simpa using wrapSp_wrapSp_add cfg v 0

theorem wrapSp_wrapSp_sub (cfg : Config) (v k : Word) : wrapSp cfg (wrapSp cfg v - k) = wrapSp cfg (v - k) := by
  simpa only [BitVec.sub_eq_add_neg] using wrapSp_wrapSp_add cfg v (-k)

theorem pushAddress_zero (hs : SpInRange s) : pushAddress s 0 = s.sp.toNat := by
  rw [pushAddress, BitVec.sub_zero, hs]

/-- Fewer than 2^SPBITS stack bytes lie at different addresses. -/
theorem pushAddress_ne_zero (s : State) {i : Nat} (h : i + 1 < 256) : pushAddress s 0 ≠ pushAddress s (i + 1) := by
  have hsp := s.sp.isLt
  simp only [pushAddress, wrapSp_toNat, BitVec.toNat_sub, BitVec.toNat_ofNat]
  rcases spMod_cases s.cfg with h | h <;> rw [h] <;> omega

/-- After `n` pushes the next pops find the bytes in the opposite order. -/
theorem pullAddress_of_pushed {n i : Nat} (hcfg : t.cfg = s.cfg) (hsp : t.sp = wrapSp s.cfg (s.sp - BitVec.ofNat 16 n))
    (hi : i < n) : pullAddress t i = pushAddress s (n - 1 - i) := by
  have hn : n = n - 1 - i + (i + 1) := by omega
  have hadd : s.sp - BitVec.ofNat 16 n + BitVec.ofNat 16 (i + 1) = s.sp - BitVec.ofNat 16 (n - 1 - i) := by
    rw [congrArg (BitVec.ofNat 16) hn, BitVec.ofNat_add]
    ring
  rw [pullAddress, pushAddress, hcfg, hsp, wrapSp_wrapSp_add, hadd]

/-! ### Going on -/

theorem andThen_of_refused {α β : Type} {r : Result α} {e : Refusal} (h : r = .refused e) (f : α → Result β) :
    andThen r f = .refused e := by
  rw [h, andThen_refused]

theorem andThen_assoc {α β γ : Type} (r : Result α) (f : α → Result β) (g : β → Result γ) :
    andThen (andThen r f) g = andThen r fun x => andThen (f x) g := by
  cases r <;> rfl

theorem andThen_pure {α : Type} (r : Result α) : andThen r (fun x => .next x) = r := by
  cases r <;> rfl

/-! ### One push and one pop -/

theorem stackClash_iff (cfg : Config) (a : Nat) :
    stackClash cfg a = true ↔ ∃ A, locate cfg a = .io A ∧ (ioOwner cfg A = .spl ∨ ioOwner cfg A = .sph) := by
  unfold stackClash
  cases locate cfg a <;> simp

theorem StackByteOk.of_cfg {a : Nat} (hcfg : t.cfg = s.cfg) (h : StackByteOk s a) : StackByteOk t a := by
  rwa [StackByteOk, hcfg]

theorem memWrite_mapped {a : Nat} (v : Byte) (h : locate s.cfg a ≠ .unmapped) : ∃ t, memWrite s a v = .next t := by
  unfold memWrite
  cases hl : locate s.cfg a with
  | unmapped => exact absurd hl h
  | _ => exact ⟨_, rfl⟩

theorem memRead_mapped {a : Nat} (h : locate s.cfg a ≠ .unmapped) : ∃ r, memRead s a = .next r := by
  unfold memRead
  cases hl : locate s.cfg a with
  | unmapped => exact absurd hl h
  | _ => exact ⟨_, rfl⟩

/-- A push at SPL or SPH is refused (R87). -/
theorem push8_clash (v : Byte) (h : stackClash s.cfg s.sp.toNat = true) :
    push8 s v = .refused (.unpredictableAddress s.sp.toNat) := if_pos h

theorem push8_ok (v : Byte) (h : StackByteOk s s.sp.toNat) : ∃ t, push8 s v = .next t := by
  obtain ⟨hmapped, hclash⟩ := h
  obtain ⟨u, hu⟩ := memWrite_mapped v hmapped
  simp [push8, hclash, hu]

theorem push8_cfg {v : Byte} (h : push8 s v = .next t) : t.cfg = s.cfg := (push8_keeps h).cfg

theorem push8_sp {v : Byte} (h : push8 s v = .next t) : t.sp = wrapSp s.cfg (s.sp - 1) := by
  obtain ⟨-, u, -, rfl⟩ := push8_next h
  rfl

theorem push8_spInRange {v : Byte} (h : push8 s v = .next t) : SpInRange t := by
  rw [SpInRange, push8_cfg h, push8_sp h, wrapSp_wrapSp]

theorem pushAddress_of_push8 {v : Byte} (h : push8 s v = .next t) (i : Nat) :
    pushAddress t i = pushAddress s (i + 1) := by
  rw [pushAddress, pushAddress, push8_cfg h, push8_sp h, wrapSp_wrapSp_sub, BitVec.ofNat_add, add_comm,
    ← sub_sub]
  rfl

/-- A pop at SPL or SPH is refused (R87). -/
theorem pop8_clash (h : stackClash s.cfg (pullAddress s 0) = true) :
    pop8 s = .refused (.unpredictableAddress (pullAddress s 0)) := if_pos h

theorem pop8_ok (h : StackByteOk s (pullAddress s 0)) : ∃ r, pop8 s = .next r := by
  obtain ⟨hmapped, hclash⟩ := h
  obtain ⟨r, hr⟩ := memRead_mapped (s := s.setSp (wrapSp s.cfg (s.sp + 1))) hmapped
  exact ⟨r, (if_neg (Bool.eq_false_iff.1 hclash)).trans hr⟩

theorem pop8_cfg {b : Byte} (h : pop8 s = .next (b, t)) : t.cfg = s.cfg := (pop8_quiet (flags := []) h).cfg

theorem pop8_sp {b : Byte} (h : pop8 s = .next (b, t)) : t.sp = wrapSp s.cfg (s.sp + 1) := by
  obtain ⟨-, hr⟩ := pop8_next h
  obtain ⟨-, rfl | ⟨p, rfl⟩⟩ := memRead_next hr <;> rfl

theorem pullAddress_of_pop8 {b : Byte} (h : pop8 s = .next (b, t)) (i : Nat) :
    pullAddress t i = pullAddress s (i + 1) := by
  rw [pullAddress, pullAddress, pop8_cfg h, pop8_sp h, wrapSp_wrapSp_add, BitVec.ofNat_add (i + 1),
    add_comm (BitVec.ofNat 16 (i + 1)), ← add_assoc]
  rfl

/-! ### Several pushes -/

/-- The bytes pushed one after the other. -/
def pushBytes : List Byte → State → Result State
  | [], s => .next s
  | v :: vs, s => andThen (push8 s v) (pushBytes vs)

/-- The first byte that would lie at SPL or SPH stops the pushes (R87). -/
theorem pushBytes_clash {vs : List Byte} {i : Nat} (hs : SpInRange s) (hi : i < vs.length)
    (hok : ∀ j, j < i → StackByteOk s (pushAddress s j)) (hclash : stackClash s.cfg (pushAddress s i) = true) :
    pushBytes vs s = .refused (.unpredictableAddress (pushAddress s i)) := by
  induction vs generalizing s i with
  | nil => cases hi
  | cons v vs ih =>
    cases i with
    | zero =>
      rw [pushAddress_zero hs] at hclash ⊢
      rw [pushBytes, push8_clash v hclash, andThen_refused]
    | succ i =>
      obtain ⟨t, ht⟩ := push8_ok v (pushAddress_zero hs ▸ hok 0 (Nat.succ_pos i))
      have hcfg := push8_cfg ht
      have haddr := pushAddress_of_push8 ht
      rw [pushBytes, ht, andThen_next, ← haddr]
      refine ih (push8_spInRange ht) (Nat.lt_of_succ_lt_succ hi) (fun j hj => ?_) (by rwa [hcfg, haddr])
      rw [haddr]
      exact (hok (j + 1) (Nat.succ_lt_succ hj)).of_cfg hcfg

/-- A push over SRAM writes its byte and no other. -/
theorem push8_sram {v : Byte} (hs : SpInRange s) (hloc : locate s.cfg (pushAddress s 0) = .sram)
    (h : push8 s v = .next t) (a : Nat) : sramByte t a = if a = pushAddress s 0 then v else sramByte s a := by
  rw [pushAddress_zero hs] at hloc ⊢
  obtain ⟨-, u, hu, rfl⟩ := push8_next h
  rw [memWrite, hloc] at hu
  cases hu
  exact Memory.read_write _ _ _ _ _

theorem pushBytes_cfg_sp {vs : List Byte} (hs : SpInRange s) (h : pushBytes vs s = .next t) :
    t.cfg = s.cfg ∧ t.sp = wrapSp s.cfg (s.sp - BitVec.ofNat 16 vs.length) := by
  induction vs generalizing s with
  | nil =>
    cases h
    exact ⟨rfl, by rw [List.length_nil, BitVec.sub_zero, hs]⟩
  | cons v vs ih =>
    obtain ⟨u, hu, h⟩ := andThen_eq_next.1 h
    obtain ⟨hcfg, hsp⟩ := ih (push8_spInRange hu) h
    refine ⟨hcfg.trans (push8_cfg hu), BitVec.eq_of_toNat_eq ?_⟩
    rw [hsp]
    exact pushAddress_of_push8 hu vs.length

/-- Pushes over SRAM leave every byte outside the addresses pushed to. -/
theorem pushBytes_sram_ne {vs : List Byte} (hs : SpInRange s)
    (hloc : ∀ i, i < vs.length → locate s.cfg (pushAddress s i) = .sram) (h : pushBytes vs s = .next t) {a : Nat}
    (ha : ∀ i, i < vs.length → a ≠ pushAddress s i) : sramByte t a = sramByte s a := by
  induction vs generalizing s with
  | nil => cases h; rfl
  | cons v vs ih =>
    obtain ⟨u, hu, h⟩ := andThen_eq_next.1 h
    have haddr := pushAddress_of_push8 hu
    have hu0 := push8_sram hs (hloc 0 (Nat.succ_pos _)) hu a
    rw [if_neg (ha 0 (Nat.succ_pos _))] at hu0
    rw [← hu0]
    refine ih (push8_spInRange hu) (fun i hi => ?_) h (fun i hi => ?_)
    · rw [push8_cfg hu, haddr]
      exact hloc (i + 1) (Nat.succ_lt_succ hi)
    · rw [haddr]
      exact ha (i + 1) (Nat.succ_lt_succ hi)

/-- Pushes over SRAM store their bytes from SP down, where no two of them share an address. -/
theorem pushBytes_sram {vs : List Byte} (hs : SpInRange s) (hlen : vs.length ≤ 256)
    (hloc : ∀ i, i < vs.length → locate s.cfg (pushAddress s i) = .sram) (h : pushBytes vs s = .next t) {i : Nat}
    (hi : i < vs.length) : sramByte t (pushAddress s i) = vs[i] := by
  induction vs generalizing s i with
  | nil => cases hi
  | cons v vs ih =>
    obtain ⟨u, hu, h⟩ := andThen_eq_next.1 h
    have haddr := pushAddress_of_push8 hu
    have hsu := push8_spInRange hu
    rw [List.length_cons] at hlen
    have hlocu : ∀ i, i < vs.length → locate u.cfg (pushAddress u i) = .sram := fun i hi => by
      rw [push8_cfg hu, haddr]
      exact hloc (i + 1) (Nat.succ_lt_succ hi)
    cases i with
    | zero =>
      have hne : ∀ i, i < vs.length → pushAddress s 0 ≠ pushAddress u i := fun i hi => by
        rw [haddr]
        exact pushAddress_ne_zero s (by omega)
      rw [pushBytes_sram_ne hsu hlocu h hne, push8_sram hs (hloc 0 hi) hu, if_pos rfl, List.getElem_cons_zero]
    | succ i =>
      rw [← haddr, List.getElem_cons_succ]
      exact ih hsu (by omega) hlocu h (Nat.lt_of_succ_lt_succ hi)

/-! ### Several pops -/

/-- The next `n` bytes popped, in their order. -/
def popBytes : Nat → State → Result (List Byte × State)
  | 0, s => .next ([], s)
  | n + 1, s => andThen (pop8 s) fun r => andThen (popBytes n r.2) fun q => .next (r.1 :: q.1, q.2)

/-- The first byte that would lie at SPL or SPH stops the pops (R87). -/
theorem popBytes_clash {n i : Nat} (hi : i < n) (hok : ∀ j, j < i → StackByteOk s (pullAddress s j))
    (hclash : stackClash s.cfg (pullAddress s i) = true) :
    popBytes n s = .refused (.unpredictableAddress (pullAddress s i)) := by
  induction n generalizing s i with
  | zero => cases hi
  | succ n ih =>
    cases i with
    | zero => rw [popBytes, pop8_clash hclash, andThen_refused]
    | succ i =>
      obtain ⟨⟨b, t⟩, ht⟩ := pop8_ok (hok 0 (Nat.succ_pos i))
      have hcfg := pop8_cfg ht
      have haddr := pullAddress_of_pop8 ht
      rw [popBytes, ht, andThen_next, ih (i := i) (Nat.lt_of_succ_lt_succ hi) (fun j hj => ?_) (by rwa [hcfg, haddr]),
        andThen_refused, haddr]
      rw [haddr]
      exact (hok (j + 1) (Nat.succ_lt_succ hj)).of_cfg hcfg

theorem pop8_sram (hloc : locate s.cfg (pullAddress s 0) = .sram) :
    pop8 s = .next (sramByte s (pullAddress s 0), s.setSp (wrapSp s.cfg (s.sp + 1))) := by
  have hclash : stackClash s.cfg (pullAddress s 0) = false := by rw [stackClash, hloc]
  have hread : memRead (s.setSp (wrapSp s.cfg (s.sp + 1))) (pullAddress s 0) =
      .next (sramByte s (pullAddress s 0), s.setSp (wrapSp s.cfg (s.sp + 1))) := by
    rw [memRead, State.setSp_cfg, hloc]
    rfl
  exact (if_neg (Bool.eq_false_iff.1 hclash)).trans hread

/-- Pops over SRAM read the bytes there and move SP only. -/
theorem popBytes_sram {vs : List Byte} (hs : SpInRange s)
    (hloc : ∀ i, i < vs.length → locate s.cfg (pullAddress s i) = .sram)
    (hvs : ∀ i (hi : i < vs.length), sramByte s (pullAddress s i) = vs[i]) :
    popBytes vs.length s = .next (vs, s.setSp (wrapSp s.cfg (s.sp + BitVec.ofNat 16 vs.length))) := by
  induction vs generalizing s with
  | nil =>
    rw [List.length_nil, BitVec.add_zero, hs]
    rfl
  | cons v vs ih =>
    have hpop := pop8_sram (hloc 0 (Nat.succ_pos _))
    have haddr := pullAddress_of_pop8 hpop
    have htail := ih (s := s.setSp (wrapSp s.cfg (s.sp + 1))) (wrapSp_wrapSp _ _)
      (fun i hi => by rw [haddr]; exact hloc (i + 1) (Nat.succ_lt_succ hi))
      (fun i hi => by rw [haddr]; exact hvs (i + 1) (Nat.succ_lt_succ hi))
    have hsp : wrapSp s.cfg (wrapSp s.cfg (s.sp + 1) + BitVec.ofNat 16 vs.length) =
        wrapSp s.cfg (s.sp + BitVec.ofNat 16 (vs.length + 1)) := by
      rw [wrapSp_wrapSp_add, Nat.add_comm, BitVec.ofNat_add, ← add_assoc]
      rfl
    rw [hvs 0 (Nat.succ_pos _), List.getElem_cons_zero] at hpop
    rw [List.length_cons, popBytes, hpop, andThen_next, htail, andThen_next, ← hsp]
    rfl

/-- Bytes pushed over SRAM are popped in the opposite order, with SP as it was. -/
theorem popBytes_after_pushBytes {vs : List Byte} (hs : SpInRange s) (hlen : vs.length ≤ 256)
    (hloc : ∀ i, i < vs.length → locate s.cfg (pushAddress s i) = .sram) (h : pushBytes vs s = .next t) :
    popBytes vs.length t = .next (vs.reverse, t.setSp s.sp) := by
  obtain ⟨hcfg, hsp⟩ := pushBytes_cfg_sp hs h
  have ht : SpInRange t := by rw [SpInRange, hcfg, hsp, wrapSp_wrapSp]
  have haddr : ∀ i, i < vs.length → pullAddress t i = pushAddress s (vs.length - 1 - i) :=
    fun i hi => pullAddress_of_pushed hcfg hsp hi
  have hback : wrapSp t.cfg (t.sp + BitVec.ofNat 16 vs.length) = s.sp := by
    rw [hcfg, hsp, wrapSp_wrapSp_add, sub_add_cancel, hs]
  rw [← List.length_reverse] at haddr hback ⊢
  rw [← hback]
  refine popBytes_sram ht (fun i hi => ?_) (fun i hi => ?_)
  · rw [hcfg, haddr i hi]
    rw [List.length_reverse] at hi ⊢
    exact hloc _ (by omega)
  · rw [haddr i hi, List.getElem_reverse]
    simp only [List.length_reverse]
    exact pushBytes_sram hs hlen hloc h _

/-! ### A return address as its bytes (R72, R73) -/

theorem pcBytes_cases (cfg : Config) : (cfg.pcBits ≤ 16 ∧ cfg.pcBytes = 2) ∨ cfg.pcBytes = 3 := by
  unfold Config.pcBytes
  split <;> simp_all

/-- The bytes of the return address `t`, in the order they are pushed. -/
def returnBytes (cfg : Config) (t : PcWord) : List Byte := (List.range cfg.pcBytes).map (returnByte (wrapPc cfg t.toNat))

@[simp] theorem returnBytes_length (cfg : Config) (t : PcWord) : (returnBytes cfg t).length = cfg.pcBytes := by
  simp [returnBytes]

theorem returnBytes_of_two {cfg : Config} (hb : cfg.pcBytes = 2) (t : PcWord) :
    returnBytes cfg t = [returnByte (wrapPc cfg t.toNat) 0, returnByte (wrapPc cfg t.toNat) 1] := by
  rw [returnBytes, hb]
  rfl

theorem returnBytes_of_three {cfg : Config} (hb : cfg.pcBytes = 3) (t : PcWord) : returnBytes cfg t =
    [returnByte (wrapPc cfg t.toNat) 0, returnByte (wrapPc cfg t.toNat) 1, returnByte (wrapPc cfg t.toNat) 2] := by
  rw [returnBytes, hb]
  rfl

theorem pcByte0_eq (t : PcWord) : pcByte0 t = returnByte t 0 := by
  apply BitVec.eq_of_toNat_eq
  simp [pcByte0, returnByte]

theorem pcByte1_eq (t : PcWord) : pcByte1 t = returnByte t 1 := by
  apply BitVec.eq_of_toNat_eq
  simp [pcByte1, returnByte, Nat.shiftRight_eq_div_pow]

theorem pcByte2_eq (t : PcWord) : pcByte2 t = returnByte t 2 := by
  have ht := t.isLt
  apply BitVec.eq_of_toNat_eq
  rw [pcByte2, toNat_append_eq, BitVec.extractLsb'_toNat, Nat.shiftRight_eq_div_pow, returnByte, BitVec.toNat_ofNat]
  simp only [BitVec.toNat_ofNat]
  omega

theorem pushPc_eq (s : State) (t : PcWord) : pushPc s t = pushBytes (returnBytes s.cfg t) s := by
  rcases pcBytes_cases s.cfg with ⟨-, hb⟩ | hb
  · simp [pushPc, hb, returnBytes_of_two, pushBytes, pcByte0_eq, pcByte1_eq]
  · simp [pushPc, hb, returnBytes_of_three, pushBytes, pcByte0_eq, pcByte1_eq, pcByte2_eq, andThen_pure]

/-- Bytes as one number, the most significant first. -/
def joinBytes (bs : List Byte) : Nat := bs.foldl (fun n b => 256 * n + b.toNat) 0

theorem append_toNat_eq_joinBytes (h m l : Byte) : (h ++ m ++ l).toNat = joinBytes [h, m, l] := by
  simp only [joinBytes, List.foldl_cons, List.foldl_nil, toNat_append_eq]
  omega

/-- A leading zero byte changes nothing. -/
theorem joinBytes_zero_cons (bs : List Byte) : joinBytes (0 :: bs) = joinBytes bs := rfl

theorem popPc_eq (s : State) : popPc s =
    andThen (popBytes s.cfg.pcBytes s) fun r => .next (wrapPc s.cfg (joinBytes r.1), r.2) := by
  rcases pcBytes_cases s.cfg with ⟨-, hb⟩ | hb
  · simp only [popPc, hb, popBytes, andThen_assoc, andThen_next, append_toNat_eq_joinBytes, joinBytes_zero_cons,
      Nat.reduceEqDiff, if_false]
  · simp only [popPc, hb, popBytes, andThen_assoc, andThen_next, append_toNat_eq_joinBytes, if_true]

theorem joinBytes_returnByte_two (t : PcWord) : joinBytes [returnByte t 1, returnByte t 0] = t.toNat % 65536 := by
  simp only [joinBytes, returnByte, List.foldl_cons, List.foldl_nil, BitVec.toNat_ofNat]
  omega

theorem joinBytes_returnByte_three (t : PcWord) :
    joinBytes [returnByte t 2, returnByte t 1, returnByte t 0] = t.toNat := by
  have ht := t.isLt
  simp only [joinBytes, returnByte, List.foldl_cons, List.foldl_nil, BitVec.toNat_ofNat]
  omega

/-- The bytes pushed, taken in the opposite order, are the address. -/
theorem joinBytes_reverse_returnBytes (cfg : Config) (t : PcWord) :
    joinBytes (returnBytes cfg t).reverse = (wrapPc cfg t.toNat).toNat := by
  rcases pcBytes_cases cfg with ⟨hbits, hb⟩ | hb
  · have hlt : (wrapPc cfg t.toNat).toNat < 2 ^ 16 :=
      (wrapPc_lt cfg t.toNat).trans_le (Nat.pow_le_pow_right (by decide) hbits)
    rw [returnBytes_of_two hb]
    exact (joinBytes_returnByte_two _).trans (Nat.mod_eq_of_lt hlt)
  · rw [returnBytes_of_three hb]
    exact joinBytes_returnByte_three _

theorem pushPc_clash {a : PcWord} {i : Nat} (hs : SpInRange s) (hi : i < s.cfg.pcBytes)
    (hok : ∀ j, j < i → StackByteOk s (pushAddress s j)) (hclash : stackClash s.cfg (pushAddress s i) = true) :
    pushPc s a = .refused (.unpredictableAddress (pushAddress s i)) := by
  rw [pushPc_eq]
  exact pushBytes_clash hs (by rwa [returnBytes_length]) hok hclash

theorem popPc_clash {i : Nat} (hi : i < s.cfg.pcBytes) (hok : ∀ j, j < i → StackByteOk s (pullAddress s j))
    (hclash : stackClash s.cfg (pullAddress s i) = true) :
    popPc s = .refused (.unpredictableAddress (pullAddress s i)) := by
  rw [popPc_eq, popBytes_clash hi hok hclash, andThen_refused]

theorem popPc_after_pushPc {a : PcWord} (hs : SpInRange s)
    (hloc : ∀ i, i < s.cfg.pcBytes → locate s.cfg (pushAddress s i) = .sram) (h : pushPc s a = .next t) :
    popPc t = .next (wrapPc s.cfg a.toNat, t.setSp s.sp) := by
  have hlen : s.cfg.pcBytes ≤ 256 := by rcases pcBytes_cases s.cfg with ⟨-, hb⟩ | hb <;> omega
  rw [pushPc_eq] at h
  rw [← returnBytes_length s.cfg a] at hlen hloc
  obtain ⟨hcfg, -⟩ := pushBytes_cfg_sp hs h
  have hpop := popBytes_after_pushBytes hs hlen hloc h
  rw [returnBytes_length] at hpop
  rw [popPc_eq, hcfg, hpop, andThen_next, joinBytes_reverse_returnBytes,
    wrapPc_of_lt _ _ (wrapPc_lt _ _)]

/-! ### Accesses that update their pointer (R87) -/

theorem ptrClash_iff (cfg : Config) (p : Ptr) (a : Nat) : ptrClash cfg p a = true ↔
    (locate cfg a = .reg p.lo ∨ locate cfg a = .reg (p.lo + 1) ∨
      (cfg.dataClass = .gt64K ∧ ∃ A, locate cfg a = .io A ∧ ioOwner cfg A = p.rampIo)) := by
  unfold ptrClash
  cases locate cfg a <;> simp [and_comm]

theorem guarded_clash {p : Ptr} {d : Reg} {i : Instr} {a : Nat} {go : Result State} (hlo : d ≠ p.lo) (hhi : d ≠ p.lo + 1)
    (h : ptrClash s.cfg p a = true) : guarded s p d i a go = .refused (.unpredictableAddress a) := by
  have hd : isPtrReg p d = false := by rw [isPtrReg, beq_false_of_ne hlo, beq_false_of_ne hhi, Bool.or_false]
  rw [guarded, hd, h]
  rfl

/-! ### Instructions and interrupts that push or pop -/

theorem execPush_clash {r : Reg} (h : stackClash s.cfg s.sp.toNat = true) :
    exec (.push r) s = .refused (.unpredictableAddress s.sp.toNat) :=
  andThen_of_refused (push8_clash (s.reg r) h) _

theorem execPop_clash {r : Reg} (h : stackClash s.cfg (pullAddress s 0) = true) :
    exec (.pop r) s = .refused (.unpredictableAddress (pullAddress s 0)) :=
  andThen_of_refused (pop8_clash h) _

/-- An interrupt that is taken stops where its push stops. -/
theorem step_interrupt_refused {n : Nat} {e : Refusal} (hreset : resetDue s = false) (hn : interruptToTake s = some n)
    (h : pushPc s s.pc = .refused e) : step s = .refused e := by
  simp [step, hreset, hn, takeInterrupt, h]

end Stack

/-! ### The obligations -/

/-- Settles O24: the pops read the pushed bytes back in the opposite order. -/
theorem popAfterPush : Obligations.pop_after_push :=
  fun _ _ _ hs hloc h => ⟨_, popPc_after_pushPc hs hloc h, rfl⟩

/-- Settles O36: the guard of the updating forms, one stack byte, and the first stack byte of several. -/
theorem selfReferentialAccessesRefused : Obligations.self_referential_accesses_refused := by
  refine ⟨?updating, ptrClash_iff, ?oneByte, stackClash_iff, ?pushes, ?pops⟩
  case updating =>
    intro s d x hx hlo hhi
    simp only [List.mem_cons, List.not_mem_nil, or_false] at hx
    rcases hx with rfl | rfl | rfl <;>
      exact ⟨fun h => ⟨guarded_clash hlo hhi h, guarded_clash hlo hhi h⟩,
        fun h => ⟨guarded_clash hlo hhi h, guarded_clash hlo hhi h⟩⟩
  case oneByte =>
    intro s r A hA
    exact ⟨fun h => execPush_clash ((stackClash_iff _ _).2 ⟨A, h, hA⟩),
      fun h => execPop_clash ((stackClash_iff _ _).2 ⟨A, h, hA⟩)⟩
  case pushes =>
    intro s k a i hs hi hok hclash
    have hpush (t : PcWord) : pushPc s t = .refused (.unpredictableAddress (pushAddress s i)) :=
      pushPc_clash hs hi hok hclash
    refine ⟨fun x hx => ?_, fun n hreset hn => step_interrupt_refused hreset hn (hpush s.pc)⟩
    simp only [List.mem_cons, List.not_mem_nil, or_false] at hx
    rcases hx with rfl | rfl | rfl | rfl <;> exact andThen_of_refused (hpush _) _
  case pops =>
    intro s i hi hok hclash
    have hpop := popPc_clash hi hok hclash
    exact ⟨andThen_of_refused hpop _, andThen_of_refused hpop _⟩

end Sys2Proof.Machine

/-! The opcode table, and the obligation O2: rows, the masks of R91 and the reserved patterns of R101 as sets of words that fix some
of their bits, so that the masks alone tell which of them meet and that together they leave no word out (spec/30 R91, R97, R101). -/

namespace Sys2Proof

/-! ### Words that fix some of their bits -/

/-- The words `w` with `w &&& mask = value`. -/
structure BitPattern where
  mask : Word
  value : Word

namespace BitPattern

def Matches (c : BitPattern) (w : Word) : Prop := w &&& c.mask = c.value

/-- A bit that both patterns fix has two values. -/
def clashes (c d : BitPattern) : Bool := c.value &&& d.mask != d.value &&& c.mask

theorem not_matches_of_clashes {c d : BitPattern} {w : Word} (h : c.clashes d = true) (hc : c.Matches w) : ¬d.Matches w := by
  intro hd
  have heq : c.value &&& d.mask = d.value &&& c.mask := by
    rw [← hc, ← hd, BitVec.and_assoc, BitVec.and_assoc, BitVec.and_comm c.mask]
  exact bne_iff_ne.1 h heq

/-- The bits that `d` fixes are among those that `c` fixes, or the two clash: `d` matches all words of `c` or none. -/
def decides (c d : BitPattern) : Bool := c.clashes d || d.mask &&& c.mask == d.mask

theorem matches_iff_of_decides {c d : BitPattern} {v w : Word} (h : c.decides d = true) (hv : c.Matches v)
    (hw : c.Matches w) : d.Matches v ↔ d.Matches w := by
  rcases Bool.or_eq_true _ _ ▸ h with hclash | hmask
  · exact iff_of_false (not_matches_of_clashes hclash hv) (not_matches_of_clashes hclash hw)
  · have hand (x : Word) (hx : c.Matches x) : x &&& d.mask = c.value &&& d.mask := by
      rw [← hx, BitVec.and_assoc, BitVec.and_comm c.mask, eq_of_beq hmask]
    rw [Matches, Matches, hand v hv, hand w hw]

/-- The words of `known` with bit number `bit` equal to `b`. -/
def fix (known : BitPattern) (bit : Nat) : (b : Bool) → BitPattern
  | false => ⟨known.mask ||| .twoPow 16 bit, known.value⟩
  | true => ⟨known.mask ||| .twoPow 16 bit, known.value ||| .twoPow 16 bit⟩

theorem matches_fix {known : BitPattern} {w : Word} (h : known.Matches w) (bit : Nat) :
    (known.fix bit (w.getLsbD bit)).Matches w := by
  have hmask : w &&& (known.mask ||| .twoPow 16 bit) =
      known.value ||| if w.getLsbD bit then .twoPow 16 bit else 0#16 := by
    rw [BitVec.and_or_distrib_left, show w &&& known.mask = known.value from h, BitVec.and_twoPow]
  cases hbit : w.getLsbD bit <;> simpa [hbit, Matches, fix] using hmask

/-- All words of `known` are words of `c`. -/
def within (known c : BitPattern) : Bool := c.mask &&& known.mask == c.mask && known.value &&& c.mask == c.value

theorem matches_of_within {known c : BitPattern} {w : Word} (h : known.within c = true) (hw : known.Matches w) :
    c.Matches w := by
  simp only [within, Bool.and_eq_true, beq_iff_eq] at h
  rw [Matches, ← h.2, ← hw, BitVec.and_assoc, BitVec.and_comm known.mask, h.1]

/-- The patterns leave out no word of `known`: one of them holds for all of these, or they leave none out for either value of the
next bit. -/
def cover : List Nat → BitPattern → List BitPattern → Bool
  | [], known, cs => cs.any known.within
  | bit :: bits, known, cs =>
    cs.any known.within ||
      cover bits (known.fix bit false) (cs.filter fun c => !c.clashes (known.fix bit false)) &&
      cover bits (known.fix bit true) (cs.filter fun c => !c.clashes (known.fix bit true))

theorem exists_matches_of_any_within {cs : List BitPattern} {known : BitPattern} {w : Word}
    (h : cs.any known.within = true) (hw : known.Matches w) : ∃ c ∈ cs, c.Matches w := by
  obtain ⟨c, hc, h⟩ := List.any_eq_true.1 h
  exact ⟨c, hc, matches_of_within h hw⟩

theorem exists_matches_of_cover {bits : List Nat} {known : BitPattern} {cs : List BitPattern} {w : Word}
    (h : cover bits known cs = true) (hw : known.Matches w) : ∃ c ∈ cs, c.Matches w := by
  induction bits generalizing known cs with
  | nil => exact exists_matches_of_any_within h hw
  | cons bit bits ih =>
    simp only [cover, Bool.or_eq_true, Bool.and_eq_true] at h
    rcases h with h | h
    · exact exists_matches_of_any_within h hw
    · have hbit (b : Bool) : cover bits (known.fix bit b) (cs.filter fun c => !c.clashes (known.fix bit b)) = true :=
        b.rec h.1 h.2
      obtain ⟨c, hc, hcw⟩ := ih (hbit (w.getLsbD bit)) (matches_fix hw bit)
      exact ⟨c, List.mem_of_mem_filter hc, hcw⟩

end BitPattern

/-! ### The rows -/

def OpcodeRow.bits (row : OpcodeRow) : BitPattern := ⟨row.mask, row.pattern⟩

theorem OpcodeRow.accepts_iff {row : OpcodeRow} {w : Word} : row.accepts w = true ↔ row.bits.Matches w := beq_iff_eq

theorem opcodeRows_clash : opcodeRows.Pairwise fun x y => x.bits.clashes y.bits = true := by decide

theorem opcodeRows_disjoint : opcodeRows.Pairwise fun x y => ∀ w : Word, ¬(x.accepts w = true ∧ y.accepts w = true) :=
  opcodeRows_clash.imp fun h _ hw =>
    BitPattern.not_matches_of_clashes h (OpcodeRow.accepts_iff.1 hw.1) (OpcodeRow.accepts_iff.1 hw.2)

theorem eq_of_accepts {x y : OpcodeRow} {w : Word} (hx : x ∈ opcodeRows) (hy : y ∈ opcodeRows)
    (hxw : x.accepts w = true) (hyw : y.accepts w = true) : x = y := by
  have : Std.Symm fun x y : OpcodeRow => ∀ w : Word, ¬(x.accepts w = true ∧ y.accepts w = true) :=
    ⟨fun _ _ h w hw => h w hw.symm⟩
  by_contra hne
  exact opcodeRows_disjoint.forall hx hy hne w ⟨hxw, hyw⟩

theorem accepts_of_decodeRow {row : OpcodeRow} {w : Word} (h : decodeRow w = some row) : row.accepts w = true :=
  List.find?_some (p := fun row : OpcodeRow => row.accepts w) h

/-- The decoder answers the row that accepts the word, wherever it stands in the table. -/
theorem decodeRow_eq_some {row : OpcodeRow} {w : Word} :
    decodeRow w = some row ↔ row ∈ opcodeRows ∧ row.accepts w = true := by
  constructor
  · exact fun h => ⟨List.mem_of_find?_eq_some h, accepts_of_decodeRow h⟩
  · rintro ⟨hmem, hacc⟩
    cases hfind : decodeRow w with
    | none => exact absurd hacc (List.find?_eq_none.1 hfind row hmem)
    | some found =>
      rw [eq_of_accepts (List.mem_of_find?_eq_some hfind) hmem (accepts_of_decodeRow hfind) hacc]

theorem decodeRow_eq_none {w : Word} : decodeRow w = none ↔ ∀ row ∈ opcodeRows, ¬row.bits.Matches w := by
  simp [decodeRow, ← OpcodeRow.accepts_iff]

/-- A row's own pattern is one of its words. -/
theorem matches_pattern : ∀ row ∈ opcodeRows, row.bits.Matches row.pattern := by
  unfold BitPattern.Matches
  decide

/-- Settles O2: any two rows fix some bit differently. -/
theorem rowsPairwiseDisjoint : Obligations.rows_pairwise_disjoint := ⟨rfl, opcodeRows_disjoint⟩

/-! ### The length of an instruction (R91) -/

/-- The four masks of R91: LDS, STS, JMP and CALL. -/
def twoWordPatterns : List BitPattern :=
  [⟨0xFE0F#16, 0x9000#16⟩, ⟨0xFE0F#16, 0x9200#16⟩, ⟨0xFE0E#16, 0x940C#16⟩, ⟨0xFE0E#16, 0x940E#16⟩]

theorem isTwoWord_iff {w : Word} : isTwoWord w = true ↔ ∃ c ∈ twoWordPatterns, c.Matches w := by
  simp [isTwoWord, twoWordPatterns, BitPattern.Matches, or_assoc]

/-- Each mask of R91 holds for all words of a row or for none. -/
theorem isTwoWord_of_accepts {row : OpcodeRow} {w : Word} (hrow : row ∈ opcodeRows) (hw : row.accepts w = true) :
    isTwoWord w = isTwoWord row.pattern := by
  have hdecides : ∀ row ∈ opcodeRows, ∀ c ∈ twoWordPatterns, row.bits.decides c = true := by decide
  rw [Bool.eq_iff_iff, isTwoWord_iff, isTwoWord_iff]
  refine exists_congr fun c => and_congr_right fun hc => ?_
  exact BitPattern.matches_iff_of_decides (hdecides row hrow c hc) (OpcodeRow.accepts_iff.1 hw) (matches_pattern row hrow)

/-- The four masks are those of four rows. -/
theorem isTwoWord_of_decodeRow_none {w : Word} (h : decodeRow w = none) : isTwoWord w = false := by
  have hrows : ∀ c ∈ twoWordPatterns, ∃ row ∈ opcodeRows, row.mask = c.mask ∧ row.pattern = c.value := by decide
  rw [Bool.eq_false_iff]
  intro htwo
  obtain ⟨c, hc, hw⟩ := isTwoWord_iff.1 htwo
  obtain ⟨row, hrow, hmask, hvalue⟩ := hrows c hc
  refine decodeRow_eq_none.1 h row hrow ?_
  rwa [BitPattern.Matches, OpcodeRow.bits, hmask, hvalue]

/-! ### The words of no row (R101) -/

/-- The patterns of R101, each with the words under it that have a row. -/
def reservedPatterns : List (BitPattern × List Word) :=
  [(⟨0xFF00#16, 0x0000#16⟩, [0x0000#16]),
    (⟨0xFE0F#16, 0x9003#16⟩, []), (⟨0xFE0F#16, 0x9008#16⟩, []), (⟨0xFE0F#16, 0x900B#16⟩, []),
    (⟨0xFE0F#16, 0x9203#16⟩, []), (⟨0xFE0F#16, 0x9204#16⟩, []), (⟨0xFE0F#16, 0x9205#16⟩, []),
    (⟨0xFE0F#16, 0x9206#16⟩, []), (⟨0xFE0F#16, 0x9207#16⟩, []), (⟨0xFE0F#16, 0x9208#16⟩, []),
    (⟨0xFE0F#16, 0x920B#16⟩, []), (⟨0xFE0F#16, 0x9404#16⟩, []), (⟨0xFE0F#16, 0x940B#16⟩, []),
    (⟨0xFFFF#16, 0x9528#16⟩, []), (⟨0xFFFF#16, 0x9538#16⟩, []), (⟨0xFFFF#16, 0x9548#16⟩, []),
    (⟨0xFFFF#16, 0x9558#16⟩, []), (⟨0xFFFF#16, 0x9568#16⟩, []), (⟨0xFFFF#16, 0x9578#16⟩, []),
    (⟨0xFFFF#16, 0x9598#16⟩, []), (⟨0xFFFF#16, 0x95B8#16⟩, []),
    (⟨0xFF0F#16, 0x9409#16⟩, [0x9409#16, 0x9419#16]), (⟨0xFF0F#16, 0x9509#16⟩, [0x9509#16, 0x9519#16]),
    (⟨0xF808#16, 0xF808#16⟩, [])]

/-- The bits in an order that tells rows and reserved patterns apart early: the register field `ddddd` comes last. -/
def bitOrder : List Nat := [15, 14, 13, 12, 11, 10, 9, 3, 2, 1, 0, 8, 7, 6, 5, 4]

/-- Rows and reserved patterns together leave no word out. -/
theorem exists_row_or_reserved (w : Word) :
    (∃ row ∈ opcodeRows, row.bits.Matches w) ∨ ∃ p ∈ reservedPatterns, p.1.Matches w := by
  have hcover : BitPattern.cover bitOrder ⟨0#16, 0#16⟩
      (opcodeRows.map OpcodeRow.bits ++ reservedPatterns.map Prod.fst) = true := by decide
  obtain ⟨c, hc, hw⟩ := BitPattern.exists_matches_of_cover (w := w) hcover BitVec.and_zero
  rcases List.mem_append.1 hc with hc | hc
  · obtain ⟨row, hrow, rfl⟩ := List.mem_map.1 hc
    exact .inl ⟨row, hrow, hw⟩
  · obtain ⟨p, hp, rfl⟩ := List.mem_map.1 hc
    exact .inr ⟨p, hp, hw⟩

/-- A row that shares a word with a reserved pattern is one of the words excepted there. -/
theorem row_of_reserved_matches {p : BitPattern × List Word} {row : OpcodeRow} {w : Word} (hp : p ∈ reservedPatterns)
    (hrow : row ∈ opcodeRows) (hpw : p.1.Matches w) (hw : row.bits.Matches w) : w ∈ p.2 := by
  have hcheck : ∀ p ∈ reservedPatterns, ∀ row ∈ opcodeRows,
      p.1.clashes row.bits = true ∨ row.mask = BitVec.allOnes 16 ∧ row.pattern ∈ p.2 := by decide
  rcases hcheck p hp row hrow with hclash | ⟨hmask, hmem⟩
  · exact absurd hw (BitPattern.not_matches_of_clashes hclash hpw)
  · have hw : w &&& row.mask = row.pattern := hw
    rw [hmask, BitVec.and_allOnes] at hw
    rwa [hw]

theorem decodeRow_eq_none_iff_reserved {w : Word} :
    decodeRow w = none ↔ ∃ p ∈ reservedPatterns, p.1.Matches w ∧ w ∉ p.2 := by
  constructor
  · intro h
    rcases exists_row_or_reserved w with ⟨row, hrow, hw⟩ | ⟨p, hp, hw⟩
    · exact absurd hw (decodeRow_eq_none.1 h row hrow)
    · have hexcepted : ∀ p ∈ reservedPatterns, (p.2.all fun v => (decodeRow v).isSome) = true := by decide
      refine ⟨p, hp, hw, fun hmem => ?_⟩
      simpa [h] using List.all_eq_true.1 (hexcepted p hp) w hmem
  · rintro ⟨p, hp, hpw, hmem⟩
    exact decodeRow_eq_none.2 fun row hrow hw => hmem (row_of_reserved_matches hp hrow hpw hw)

/-- The list of patterns, written out as R101 has them. -/
theorem exists_reserved_iff {w : Word} :
    (∃ p ∈ reservedPatterns, p.1.Matches w ∧ w ∉ p.2) ↔
    ((w &&& 0xFF00 = 0x0000 ∧ w ≠ 0x0000) ∨
     (w &&& 0xFE0F = 0x9003 ∨ w &&& 0xFE0F = 0x9008 ∨ w &&& 0xFE0F = 0x900B) ∨
     (w &&& 0xFE0F = 0x9203 ∨ w &&& 0xFE0F = 0x9204 ∨ w &&& 0xFE0F = 0x9205 ∨ w &&& 0xFE0F = 0x9206 ∨
      w &&& 0xFE0F = 0x9207 ∨ w &&& 0xFE0F = 0x9208 ∨ w &&& 0xFE0F = 0x920B) ∨
     w &&& 0xFE0F = 0x9404 ∨ w &&& 0xFE0F = 0x940B ∨
     w ∈ [0x9528#16, 0x9538#16, 0x9548#16, 0x9558#16, 0x9568#16, 0x9578#16, 0x9598#16, 0x95B8#16] ∨
     (w &&& 0xFF0F = 0x9409 ∧ w ≠ 0x9409 ∧ w ≠ 0x9419) ∨
     (w &&& 0xFF0F = 0x9509 ∧ w ≠ 0x9509 ∧ w ≠ 0x9519) ∨
     w &&& 0xF808 = 0xF808) := by
  have hall : w &&& 0xFFFF#16 = w := BitVec.and_allOnes
  simp [reservedPatterns, BitPattern.Matches, hall, or_assoc]

end Sys2Proof

/-! The round trip between words and instructions, and the obligations O3, O4 and O6: for each format of the opcode table the
encoder's word and the operand fields are inverse to each other (`Layout`); every row and every primary instruction is one of these
formats (spec/30 R90 to R97). -/

namespace Sys2Proof

/-! ### Bits -/

section Bits

variable {n m : Nat}

/-- Bit `i`. It has a name of its own because `simp` computes the widths inside `++` before it looks for the bits there. -/
def bitAt (x : BitVec n) (i : Nat) : Bool := x.getLsbD i

@[simp] theorem bitAt_append (x : BitVec n) (y : BitVec m) (i : Nat) :
    bitAt (x ++ y) i = if i < m then bitAt y i else bitAt x (i - m) := BitVec.getLsbD_append

@[simp] theorem bitAt_extractLsb' (x : BitVec n) (start len i : Nat) :
    bitAt (x.extractLsb' start len) i = (decide (i < len) && bitAt x (start + i)) := BitVec.getLsbD_extractLsb' ..

@[simp] theorem bitAt_and (x y : BitVec n) (i : Nat) : bitAt (x &&& y) i = (bitAt x i && bitAt y i) := BitVec.getLsbD_and

@[simp] theorem bitAt_or (x y : BitVec n) (i : Nat) : bitAt (x ||| y) i = (bitAt x i || bitAt y i) := BitVec.getLsbD_or

@[simp] theorem bitAt_not (x : BitVec n) (i : Nat) : bitAt (~~~x) i = (decide (i < n) && !bitAt x i) := BitVec.getLsbD_not

@[simp] theorem bitAt_ofNat (k i : Nat) : bitAt (BitVec.ofNat n k) i = (BitVec.ofNat n k).getLsbD i := rfl

/-- The lowest `k` bits are equal. -/
@[simp] def lowBitsEq (x y : BitVec n) : Nat → Prop
  | 0 => True
  | k + 1 => lowBitsEq x y k ∧ bitAt x k = bitAt y k

theorem lowBitsEq_bit {x y : BitVec n} {k i : Nat} (h : lowBitsEq x y k) (hi : i < k) : x.getLsbD i = y.getLsbD i := by
  induction k with
  | zero => exact absurd hi (Nat.not_lt_zero i)
  | succ k ih =>
    rcases Nat.lt_succ_iff_lt_or_eq.1 hi with hlt | rfl
    · exact ih h.1 hlt
    · exact h.2

theorem eq_of_lowBitsEq {x y : BitVec n} (h : lowBitsEq x y n) : x = y :=
  BitVec.eq_of_getLsbD_eq fun _ hi => lowBitsEq_bit h hi

theorem word_eq {x y : Word} (h : lowBitsEq x y 16) : x = y := eq_of_lowBitsEq h

end Bits

/-- The bits outside the mask and the bits under it make up the word. -/
theorem and_not_or_and (w m : Word) : w &&& ~~~m ||| w &&& m = w := by
  rw [← BitVec.and_or_distrib_left, BitVec.or_comm, BitVec.or_not_self, BitVec.and_allOnes]

theorem append_extractLsb'_word (w : Word) : w.extractLsb' 8 8 ++ w.extractLsb' 0 8 = w :=
  eq_of_lowBitsEq (by simp [-Nat.reduceAdd])

/-! ### Operand ranges (R22) as the bits that a field leaves out -/

theorem upper_append_low4 : ∀ d : Reg, d.isUpper = true → 1#1 ++ low4 d = d := by decide

theorem multiplier_append_low3 : ∀ d : Reg, d.isMultiplier = true → 0b10#2 ++ low3 d = d := by decide

theorem even_high4_append : ∀ d : Reg, d.isEven = true → high4 d ++ 0#1 = d := by decide

theorem wordPair_append : ∀ d : Reg, d.isWordPair = true → 0b11#2 ++ d.extractLsb' 1 2 ++ 0#1 = d := by decide

theorem isUpper_append : ∀ x : BitVec 4, Reg.isUpper (1#1 ++ x) = true := by decide

theorem isMultiplier_append : ∀ x : BitVec 3, Reg.isMultiplier (0b10#2 ++ x) = true := by decide

theorem isEven_append : ∀ x : BitVec 4, Reg.isEven (x ++ 0#1) = true := by decide

theorem isWordPair_append : ∀ x : BitVec 2, Reg.isWordPair (0b11#2 ++ x ++ 0#1) = true := by decide

/-! ### The formats -/

/-- The first words of one format: `enc` writes operands into a word that holds `pattern` under `mask`, `fields` reads them back;
both are inverse to each other on the valid operands and on the words that hold the pattern. -/
structure Layout {α : Type} (mask pattern : Word) (valid : α → Bool) (enc : α → Word) (fields : Word → α) : Prop where
  enc_and_mask : ∀ a, enc a &&& mask = pattern
  fields_enc : ∀ a, valid a = true → fields (enc a) = a
  enc_fields : ∀ w, enc (fields w) = w &&& ~~~mask ||| pattern
  valid_fields : ∀ w, valid (fields w) = true

theorem Layout.enc_fields_eq {α : Type} {mask pattern : Word} {valid : α → Bool} {enc : α → Word} {fields : Word → α}
    (L : Layout mask pattern valid enc fields) {w : Word} (h : w &&& mask = pattern) : enc (fields w) = w := by
  rw [L.enc_fields, ← h, and_not_or_and]

/-- A word without operands. -/
theorem layoutFixed (p : Word) : Layout 0xFFFF#16 p (fun _ : Unit => true) (fun _ => p) (fun _ => ()) where
  enc_and_mask _ := BitVec.and_allOnes
  fields_enc _ _ := rfl
  enc_fields w := by simp
  valid_fields _ := rfl

/-- `oooo oord dddd rrrr`. -/
theorem layoutRdRr (op : BitVec 6) : Layout 0xFC00#16 (op ++ 0#10) (fun _ : Reg × Reg => true)
    (fun a => encRdRr op a.1 a.2) (fun w => (fieldD w, fieldR w)) where
  enc_and_mask _ := word_eq (by simp [-Nat.reduceAdd, encRdRr])
  fields_enc _ _ := Prod.ext (eq_of_lowBitsEq (by simp [-Nat.reduceAdd, encRdRr, fieldD]))
    (eq_of_lowBitsEq (by simp [-Nat.reduceAdd, encRdRr, fieldR]))
  enc_fields _ := word_eq (by simp [-Nat.reduceAdd, encRdRr, fieldD, fieldR])
  valid_fields _ := rfl

/-- `oooo KKKK dddd KKKK`, register 16 + field. -/
theorem layoutRdK (op : BitVec 4) : Layout 0xF000#16 (op ++ 0#12) (fun a : Reg × Byte => a.1.isUpper)
    (fun a => encRdK op a.1 a.2) (fun w => (fieldUpperD w, fieldK8 w)) where
  enc_and_mask _ := word_eq (by simp [-Nat.reduceAdd, encRdK])
  fields_enc a h := Prod.ext
    (Eq.trans (eq_of_lowBitsEq (by simp [-Nat.reduceAdd, encRdK, fieldUpperD])) (upper_append_low4 a.1 h))
    (eq_of_lowBitsEq (by simp [-Nat.reduceAdd, encRdK, fieldK8]))
  enc_fields _ := word_eq (by simp [-Nat.reduceAdd, encRdK, low4, fieldUpperD, fieldK8])
  valid_fields _ := isUpper_append _

/-- `oooo ooox xxxx oooo`. -/
theorem layoutRd (op : BitVec 7) (m : BitVec 4) : Layout 0xFE0F#16 (op ++ 0#5 ++ m) (fun _ : Reg => true)
    (fun d => encRd op d m) fieldD where
  enc_and_mask _ := word_eq (by simp [-Nat.reduceAdd, encRd])
  fields_enc _ _ := eq_of_lowBitsEq (by simp [-Nat.reduceAdd, encRd, fieldD])
  enc_fields _ := word_eq (by simp [-Nat.reduceAdd, encRd, fieldD])
  valid_fields _ := rfl

/-- `10q0 qqsd dddd yqqq`. -/
theorem layoutDisp (s y : BitVec 1) : Layout 0xD208#16 (encDisp 0 s 0 y) (fun _ : Reg × BitVec 6 => true)
    (fun a => encDisp a.2 s a.1 y) (fun w => (fieldD w, fieldQ w)) where
  enc_and_mask _ := word_eq (by simp [-Nat.reduceAdd, encDisp])
  fields_enc _ _ := Prod.ext (eq_of_lowBitsEq (by simp [-Nat.reduceAdd, encDisp, fieldD]))
    (eq_of_lowBitsEq (by simp [-Nat.reduceAdd, encDisp, fieldQ]))
  enc_fields _ := word_eq (by simp [-Nat.reduceAdd, encDisp, fieldD, fieldQ])
  valid_fields _ := rfl

/-- `oooo oooo KKdd KKKK`, register 24 + 2 × field. -/
theorem layoutWordK (op : BitVec 8) : Layout 0xFF00#16 (op ++ 0#8) (fun a : Reg × BitVec 6 => a.1.isWordPair)
    (fun a => op ++ a.2.extractLsb' 4 2 ++ a.1.extractLsb' 1 2 ++ a.2.extractLsb' 0 4)
    (fun w => (fieldWordD w, fieldK6 w)) where
  enc_and_mask _ := word_eq (by simp [-Nat.reduceAdd])
  fields_enc a h := Prod.ext
    (Eq.trans (eq_of_lowBitsEq (by simp [-Nat.reduceAdd, fieldWordD])) (wordPair_append a.1 h))
    (eq_of_lowBitsEq (by simp [-Nat.reduceAdd, fieldK6]))
  enc_fields _ := word_eq (by simp [-Nat.reduceAdd, fieldWordD, fieldK6])
  valid_fields _ := isWordPair_append _

/-- `oooo oooo dddd rrrr`, registers 16 + field. -/
theorem layoutUpper (op : BitVec 8) : Layout 0xFF00#16 (op ++ 0#8) (fun a : Reg × Reg => a.1.isUpper && a.2.isUpper)
    (fun a => op ++ low4 a.1 ++ low4 a.2) (fun w => (fieldUpperD w, fieldUpperR w)) where
  enc_and_mask _ := word_eq (by simp [-Nat.reduceAdd])
  fields_enc a h := Prod.ext
    (Eq.trans (eq_of_lowBitsEq (by simp [-Nat.reduceAdd, fieldUpperD])) (upper_append_low4 a.1 (Bool.and_eq_true_iff.1 h).1))
    (Eq.trans (eq_of_lowBitsEq (by simp [-Nat.reduceAdd, fieldUpperR])) (upper_append_low4 a.2 (Bool.and_eq_true_iff.1 h).2))
  enc_fields _ := word_eq (by simp [-Nat.reduceAdd, low4, fieldUpperD, fieldUpperR])
  valid_fields w := by simp [fieldUpperD, fieldUpperR, isUpper_append]

/-- `oooo oooo xddd yrrr`, registers 16 + field. -/
theorem layoutMultiplier (op : BitVec 8) (x y : BitVec 1) : Layout 0xFF88#16 (op ++ x ++ 0#3 ++ y ++ 0#3)
    (fun a : Reg × Reg => a.1.isMultiplier && a.2.isMultiplier)
    (fun a => op ++ x ++ low3 a.1 ++ y ++ low3 a.2) (fun w => (fieldMulD w, fieldMulR w)) where
  enc_and_mask _ := word_eq (by simp [-Nat.reduceAdd])
  fields_enc a h := Prod.ext
    (Eq.trans (eq_of_lowBitsEq (by simp [-Nat.reduceAdd, fieldMulD])) (multiplier_append_low3 a.1 (Bool.and_eq_true_iff.1 h).1))
    (Eq.trans (eq_of_lowBitsEq (by simp [-Nat.reduceAdd, fieldMulR])) (multiplier_append_low3 a.2 (Bool.and_eq_true_iff.1 h).2))
  enc_fields _ := word_eq (by simp [-Nat.reduceAdd, low3, fieldMulD, fieldMulR])
  valid_fields w := by simp [fieldMulD, fieldMulR, isMultiplier_append]

/-- `oooo oooo dddd rrrr`, registers 2 × field. -/
theorem layoutPairs (op : BitVec 8) : Layout 0xFF00#16 (op ++ 0#8) (fun a : Reg × Reg => a.1.isEven && a.2.isEven)
    (fun a => op ++ high4 a.1 ++ high4 a.2) (fun w => (fieldPairD w, fieldPairR w)) where
  enc_and_mask _ := word_eq (by simp [-Nat.reduceAdd])
  fields_enc a h := Prod.ext
    (Eq.trans (eq_of_lowBitsEq (by simp [-Nat.reduceAdd, fieldPairD])) (even_high4_append a.1 (Bool.and_eq_true_iff.1 h).1))
    (Eq.trans (eq_of_lowBitsEq (by simp [-Nat.reduceAdd, fieldPairR])) (even_high4_append a.2 (Bool.and_eq_true_iff.1 h).2))
  enc_fields _ := word_eq (by simp [-Nat.reduceAdd, high4, fieldPairD, fieldPairR])
  valid_fields w := by simp [fieldPairD, fieldPairR, isEven_append]

/-- `oooo kkkk kkkk kkkk`. -/
theorem layoutK12 (op : BitVec 4) : Layout 0xF000#16 (op ++ 0#12) (fun _ : BitVec 12 => true)
    (fun k => op ++ k) fieldK12 where
  enc_and_mask _ := word_eq (by simp [-Nat.reduceAdd])
  fields_enc _ _ := eq_of_lowBitsEq (by simp [-Nat.reduceAdd, fieldK12])
  enc_fields _ := word_eq (by simp [-Nat.reduceAdd, fieldK12])
  valid_fields _ := rfl

/-- `1001 010k kkkk mmmk`, the first word of JMP and CALL, with the upper six bits of the target. -/
theorem layoutK22 (m : BitVec 3) : Layout 0xFE0E#16 (0b1001010#7 ++ 0#5 ++ m ++ 0#1) (fun _ : BitVec 6 => true)
    (fun k => 0b1001010#7 ++ k.extractLsb' 1 5 ++ m ++ k.extractLsb' 0 1)
    (fun w => w.extractLsb' 4 5 ++ w.extractLsb' 0 1) where
  enc_and_mask _ := word_eq (by simp [-Nat.reduceAdd])
  fields_enc _ _ := eq_of_lowBitsEq (by simp [-Nat.reduceAdd])
  enc_fields _ := word_eq (by simp [-Nat.reduceAdd])
  valid_fields _ := rfl

/-- `oooo ooor rrrr 0bbb`. -/
theorem layoutRegBit (op : BitVec 7) : Layout 0xFE08#16 (op ++ 0#9) (fun _ : Reg × BitVec 3 => true)
    (fun a => op ++ a.1 ++ 0#1 ++ a.2) (fun w => (fieldD w, fieldB w)) where
  enc_and_mask _ := word_eq (by simp [-Nat.reduceAdd])
  fields_enc _ _ := Prod.ext (eq_of_lowBitsEq (by simp [-Nat.reduceAdd, fieldD]))
    (eq_of_lowBitsEq (by simp [-Nat.reduceAdd, fieldB]))
  enc_fields _ := word_eq (by simp [-Nat.reduceAdd, fieldD, fieldB])
  valid_fields _ := rfl

/-- `oooo oooo AAAA Abbb`. -/
theorem layoutIoBit (op : BitVec 8) : Layout 0xFF00#16 (op ++ 0#8) (fun _ : BitVec 5 × BitVec 3 => true)
    (fun a => op ++ a.1 ++ a.2) (fun w => (fieldA5 w, fieldB w)) where
  enc_and_mask _ := word_eq (by simp [-Nat.reduceAdd])
  fields_enc _ _ := Prod.ext (eq_of_lowBitsEq (by simp [-Nat.reduceAdd, fieldA5]))
    (eq_of_lowBitsEq (by simp [-Nat.reduceAdd, fieldB]))
  enc_fields _ := word_eq (by simp [-Nat.reduceAdd, fieldA5, fieldB])
  valid_fields _ := rfl

/-- `oooo ookk kkkk ksss`. -/
theorem layoutBranch (op : BitVec 6) : Layout 0xFC00#16 (op ++ 0#10) (fun _ : BitVec 3 × BitVec 7 => true)
    (fun a => op ++ a.2 ++ a.1) (fun w => (fieldB w, fieldK7 w)) where
  enc_and_mask _ := word_eq (by simp [-Nat.reduceAdd])
  fields_enc _ _ := Prod.ext (eq_of_lowBitsEq (by simp [-Nat.reduceAdd, fieldB]))
    (eq_of_lowBitsEq (by simp [-Nat.reduceAdd, fieldK7]))
  enc_fields _ := word_eq (by simp [-Nat.reduceAdd, fieldB, fieldK7])
  valid_fields _ := rfl

/-- `oooo oAAd dddd AAAA`. -/
theorem layoutIo (op : BitVec 5) : Layout 0xF800#16 (op ++ 0#11) (fun _ : Reg × BitVec 6 => true)
    (fun a => op ++ a.2.extractLsb' 4 2 ++ a.1 ++ a.2.extractLsb' 0 4) (fun w => (fieldD w, fieldA6 w)) where
  enc_and_mask _ := word_eq (by simp [-Nat.reduceAdd])
  fields_enc _ _ := Prod.ext (eq_of_lowBitsEq (by simp [-Nat.reduceAdd, fieldD]))
    (eq_of_lowBitsEq (by simp [-Nat.reduceAdd, fieldA6]))
  enc_fields _ := word_eq (by simp [-Nat.reduceAdd, fieldD, fieldA6])
  valid_fields _ := rfl

/-- `1001 0100 xsss 1000`. -/
theorem layoutFlag (x : BitVec 1) : Layout 0xFF8F#16 (0b10010100#8 ++ x ++ 0#3 ++ 0b1000#4) (fun _ : BitVec 3 => true)
    (fun f => 0b10010100#8 ++ x ++ f ++ 0b1000#4) fieldS where
  enc_and_mask _ := word_eq (by simp [-Nat.reduceAdd])
  fields_enc _ _ := eq_of_lowBitsEq (by simp [-Nat.reduceAdd, fieldS])
  enc_fields _ := word_eq (by simp [-Nat.reduceAdd, fieldS])
  valid_fields _ := rfl

/-! ### Bytes and words -/

theorem wordBytes_append (l h : Byte) : wordBytes (h ++ l) = [l, h] := by
  have hl : (h ++ l).extractLsb' 0 8 = l := eq_of_lowBitsEq (by simp [-Nat.reduceAdd])
  have hh : (h ++ l).extractLsb' 8 8 = h := eq_of_lowBitsEq (by simp [-Nat.reduceAdd])
  exact congrArg₂ (fun a b => [a, b]) hl hh

theorem word_of_bytes {l h : Byte} {tail rest : List Byte} {w : Word} (hbytes : l :: h :: tail = wordBytes w ++ rest) :
    h ++ l = w ∧ tail = rest := by
  simp only [wordBytes, List.cons_append, List.nil_append, List.cons.injEq] at hbytes
  obtain ⟨rfl, rfl, rfl⟩ := hbytes
  exact ⟨append_extractLsb'_word w, rfl⟩

theorem decodeBytes_oneWord {w : Word} {row : OpcodeRow} (hrow : decodeRow w = some row) (hone : isTwoWord w = false)
    (rest : List Byte) : decodeBytes (wordBytes w ++ rest) = .instr (row.build w 0#16) rest := by
  simp [wordBytes, decodeBytes, append_extractLsb'_word, hrow, hone]

theorem decodeBytes_twoWords {w w2 : Word} {row : OpcodeRow} (hrow : decodeRow w = some row) (htwo : isTwoWord w = true)
    (rest : List Byte) : decodeBytes (wordBytes w ++ (wordBytes w2 ++ rest)) = .instr (row.build w w2) rest := by
  simp [wordBytes, decodeBytes, append_extractLsb'_word, hrow, htwo]

/-- Bytes that decode are one word or two, by R91, and what follows them. -/
theorem decodeBytes_eq_instr {bytes rest : List Byte} {i : Instr} (h : decodeBytes bytes = .instr i rest) :
    ∃ w row, decodeRow w = some row ∧
      ((isTwoWord w = true ∧ ∃ w2, i = row.build w w2 ∧ bytes = wordBytes w ++ (wordBytes w2 ++ rest)) ∨
       (isTwoWord w = false ∧ i = row.build w 0#16 ∧ bytes = wordBytes w ++ rest)) := by
  unfold decodeBytes at h
  split at h
  · rename_i l h' tail
    split at h
    · cases h
    · rename_i row hrow
      refine ⟨h' ++ l, row, hrow, ?_⟩
      split at h
      · rename_i htwo
        split at h
        · rename_i l2 h2 tail2
          cases h
          exact .inl ⟨htwo, h2 ++ l2, rfl, by simp [wordBytes_append]⟩
        · cases h
      · rename_i hone
        cases h
        exact .inr ⟨Bool.eq_false_iff.2 hone, rfl, by simp [wordBytes_append]⟩
  · cases h

/-! ### What a row and an instruction owe each other -/

/-- Whatever words the row accepts, it reads a well-formed primary whose encoding is these words: both, or the first alone. -/
def OpcodeRow.Exact (row : OpcodeRow) : Prop :=
  ∀ w w2, row.accepts w = true → (row.build w w2).wellFormed = true ∧ expand (row.build w w2) = row.build w w2 ∧
    encode (row.build w w2) = if isTwoWord row.pattern then [w, w2] else [w]

/-- Decoding the bytes of the instruction gives it back. -/
def Instr.Decodes (i : Instr) : Prop := ∀ rest, decodeBytes (encodeBytes i ++ rest) = .instr i rest

section Layout

variable {α β : Type} {mask pattern : Word} {valid : α → Bool} {enc : α → Word} {fields : Word → α}

/-- A row of the layout whose instructions `mk a k` the encoder writes as `enc a`, followed by `k` where there is a second word. -/
theorem Layout.exact (L : Layout mask pattern valid enc fields) (mk : α → Word → Instr)
    (hmk : ∀ a k, (mk a k).wellFormed = valid a ∧ expand (mk a k) = mk a k ∧
      encode (mk a k) = if isTwoWord pattern then [enc a, k] else [enc a] := by exact fun _ _ => ⟨rfl, rfl, rfl⟩) :
    OpcodeRow.Exact ⟨mask, pattern, fun w w2 => mk (fields w) w2⟩ := by
  intro w w2 hw
  obtain ⟨hwf, hexpand, hencode⟩ := hmk (fields w) w2
  rw [L.enc_fields_eq (eq_of_beq hw)] at hencode
  exact ⟨hwf.trans (L.valid_fields w), hexpand, hencode⟩

/-- An instruction of the layout whose row is in the table. -/
theorem Layout.decodes (L : Layout mask pattern valid enc fields) (mk : α → Word → Instr) (a : α) (k : Word)
    (hvalid : valid a = true)
    (hrow : decodeRow pattern = some ⟨mask, pattern, fun w w2 => mk (fields w) w2⟩ := by rfl)
    (hencode : encode (mk a k) = if isTwoWord pattern then [enc a, k] else [enc a] := by rfl)
    (hone : isTwoWord pattern = true ∨ mk a k = mk a 0 := by exact .inr rfl) : (mk a k).Decodes := by
  intro rest
  obtain ⟨hmem, -⟩ := decodeRow_eq_some.1 hrow
  have hacc : OpcodeRow.accepts ⟨mask, pattern, fun w w2 => mk (fields w) w2⟩ (enc a) = true :=
    beq_iff_eq.2 (L.enc_and_mask a)
  have hrow' := decodeRow_eq_some.2 ⟨hmem, hacc⟩
  have hlength : isTwoWord (enc a) = isTwoWord pattern := isTwoWord_of_accepts hmem hacc
  have hbuild (w2 : Word) : mk (fields (enc a)) w2 = mk a w2 := congrArg (mk · w2) (L.fields_enc a hvalid)
  cases htwo : isTwoWord pattern with
  | true =>
    have hbytes : encodeBytes (mk a k) ++ rest = wordBytes (enc a) ++ (wordBytes k ++ rest) := by
      simp [encodeBytes, hencode, htwo]
    rw [hbytes, decodeBytes_twoWords hrow' (hlength.trans htwo)]
    exact congrArg (Decoded.instr · rest) (hbuild k)
  | false =>
    have hbytes : encodeBytes (mk a k) ++ rest = wordBytes (enc a) ++ rest := by simp [encodeBytes, hencode, htwo]
    rw [hbytes, decodeBytes_oneWord hrow' (hlength.trans htwo)]
    have hone : mk a k = mk a 0 := by simpa [htwo] using hone
    exact congrArg (Decoded.instr · rest) ((hbuild 0).trans hone.symm)

end Layout

section Operands

variable {α β : Type} {mask pattern : Word}

theorem Layout.exact₁ {valid : α → Bool} {enc : α → Word} {fields : Word → α} (L : Layout mask pattern valid enc fields)
    (mk : α → Instr)
    (hmk : ∀ a, (mk a).wellFormed = valid a ∧ expand (mk a) = mk a ∧
      ∀ k, encode (mk a) = if isTwoWord pattern then [enc a, k] else [enc a] := by exact fun _ => ⟨rfl, rfl, fun _ => rfl⟩) :
    OpcodeRow.Exact ⟨mask, pattern, fun w _ => mk (fields w)⟩ :=
  L.exact (fun a _ => mk a) fun a k => ⟨(hmk a).1, (hmk a).2.1, (hmk a).2.2 k⟩

theorem Layout.exact₂ {valid : α × β → Bool} {enc : α × β → Word} {fields : Word → α × β}
    (L : Layout mask pattern valid enc fields) (mk : α → β → Instr)
    (hmk : ∀ a, (mk a.1 a.2).wellFormed = valid a ∧ expand (mk a.1 a.2) = mk a.1 a.2 ∧
      ∀ k, encode (mk a.1 a.2) = if isTwoWord pattern then [enc a, k] else [enc a]
        := by exact fun _ => ⟨rfl, rfl, fun _ => rfl⟩) :
    OpcodeRow.Exact ⟨mask, pattern, fun w _ => mk (fields w).1 (fields w).2⟩ :=
  L.exact₁ (fun a => mk a.1 a.2) hmk

theorem Layout.decodes₁ {valid : α → Bool} {enc : α → Word} {fields : Word → α}
    (L : Layout mask pattern valid enc fields) (mk : α → Instr) (a : α) (hvalid : valid a = true)
    (hrow : decodeRow pattern = some ⟨mask, pattern, fun w _ => mk (fields w)⟩ := by rfl)
    (hencode : ∀ k, encode (mk a) = if isTwoWord pattern then [enc a, k] else [enc a] := by exact fun _ => rfl) :
    (mk a).Decodes :=
  L.decodes (fun a _ => mk a) a 0 hvalid hrow (hencode 0) (.inr rfl)

theorem Layout.decodes₂ {valid : α × β → Bool} {enc : α × β → Word} {fields : Word → α × β}
    (L : Layout mask pattern valid enc fields) (mk : α → β → Instr) (a : α) (b : β) (hvalid : valid (a, b) = true)
    (hrow : decodeRow pattern = some ⟨mask, pattern, fun w _ => mk (fields w).1 (fields w).2⟩ := by rfl)
    (hencode : ∀ k, encode (mk a b) = if isTwoWord pattern then [enc (a, b), k] else [enc (a, b)] := by exact fun _ => rfl) :
    (mk a b).Decodes :=
  L.decodes₁ (fun a => mk a.1 a.2) (a, b) hvalid hrow hencode

end Operands

/-! ### Every row (O4) -/

theorem encode_jmp (a : BitVec 6) (k : Word) :
    encode (.jmp (a ++ k)) = [0b1001010#7 ++ a.extractLsb' 1 5 ++ 0b110#3 ++ a.extractLsb' 0 1, k] := by
  refine congrArg₂ (fun x y => [x, y]) (word_eq ?_) (word_eq ?_) <;> simp [-Nat.reduceAdd]

theorem encode_call (a : BitVec 6) (k : Word) :
    encode (.call (a ++ k)) = [0b1001010#7 ++ a.extractLsb' 1 5 ++ 0b111#3 ++ a.extractLsb' 0 1, k] := by
  refine congrArg₂ (fun x y => [x, y]) (word_eq ?_) (word_eq ?_) <;> simp [-Nat.reduceAdd]

theorem arithmeticRows_exact : ∀ row ∈ arithmeticRows, row.Exact :=
  List.forall_iff_forall_mem.1
    ⟨(layoutRdRr 0b000011#6).exact₂ .add, (layoutRdRr 0b000111#6).exact₂ .adc, (layoutWordK 0b10010110#8).exact₂ .adiw,
      (layoutRdRr 0b000110#6).exact₂ .sub, (layoutRdK 0b0101#4).exact₂ .subi, (layoutRdRr 0b000010#6).exact₂ .sbc,
      (layoutRdK 0b0100#4).exact₂ .sbci, (layoutWordK 0b10010111#8).exact₂ .sbiw, (layoutRdRr 0b001000#6).exact₂ .land,
      (layoutRdK 0b0111#4).exact₂ .andi, (layoutRdRr 0b001010#6).exact₂ .lor, (layoutRdK 0b0110#4).exact₂ .ori,
      (layoutRdRr 0b001001#6).exact₂ .eor, (layoutRd 0b1001010#7 0b0000#4).exact₁ .com,
      (layoutRd 0b1001010#7 0b0001#4).exact₁ .neg, (layoutRd 0b1001010#7 0b0011#4).exact₁ .inc,
      (layoutRd 0b1001010#7 0b1010#4).exact₁ .dec, (layoutRdRr 0b100111#6).exact₂ .mul,
      (layoutUpper 0b00000010#8).exact₂ .muls, (layoutMultiplier 0b00000011#8 0b0#1 0b0#1).exact₂ .mulsu,
      (layoutMultiplier 0b00000011#8 0b0#1 0b1#1).exact₂ .fmul, (layoutMultiplier 0b00000011#8 0b1#1 0b0#1).exact₂ .fmuls,
      (layoutMultiplier 0b00000011#8 0b1#1 0b1#1).exact₂ .fmulsu⟩

theorem branchRows_exact : ∀ row ∈ branchRows, row.Exact :=
  List.forall_iff_forall_mem.1
    ⟨(layoutK12 0b1100#4).exact₁ .rjmp, (layoutFixed 0x9409#16).exact₁ fun _ => .ijmp,
      (layoutFixed 0x9419#16).exact₁ fun _ => .eijmp,
      (layoutK22 0b110#3).exact (fun a k => .jmp (a ++ k)) fun a k => ⟨rfl, rfl, encode_jmp a k⟩,
      (layoutK12 0b1101#4).exact₁ .rcall, (layoutFixed 0x9509#16).exact₁ fun _ => .icall,
      (layoutFixed 0x9519#16).exact₁ fun _ => .eicall,
      (layoutK22 0b111#3).exact (fun a k => .call (a ++ k)) fun a k => ⟨rfl, rfl, encode_call a k⟩,
      (layoutFixed 0x9508#16).exact₁ fun _ => .ret, (layoutFixed 0x9518#16).exact₁ fun _ => .reti,
      (layoutRdRr 0b000100#6).exact₂ .cpse, (layoutRdRr 0b000101#6).exact₂ .cp, (layoutRdRr 0b000001#6).exact₂ .cpc,
      (layoutRdK 0b0011#4).exact₂ .cpi, (layoutRegBit 0b1111110#7).exact₂ .sbrc, (layoutRegBit 0b1111111#7).exact₂ .sbrs,
      (layoutIoBit 0b10011001#8).exact₂ .sbic, (layoutIoBit 0b10011011#8).exact₂ .sbis,
      (layoutBranch 0b111100#6).exact₂ .brbs, (layoutBranch 0b111101#6).exact₂ .brbc⟩

theorem transferRows_exact : ∀ row ∈ transferRows, row.Exact :=
  List.forall_iff_forall_mem.1
    ⟨(layoutRdRr 0b001011#6).exact₂ .mov, (layoutPairs 0b00000001#8).exact₂ .movw, (layoutRdK 0b1110#4).exact₂ .ldi,
      (layoutRd 0b1001000#7 0b0000#4).exact .lds,
      (layoutRd 0b1001000#7 0b1100#4).exact₁ .ldX, (layoutRd 0b1001000#7 0b1101#4).exact₁ .ldXInc,
      (layoutRd 0b1001000#7 0b1110#4).exact₁ .ldXDec, (layoutRd 0b1001000#7 0b1001#4).exact₁ .ldYInc,
      (layoutRd 0b1001000#7 0b1010#4).exact₁ .ldYDec, (layoutDisp 0b0#1 0b1#1).exact₂ .lddY,
      (layoutRd 0b1001000#7 0b0001#4).exact₁ .ldZInc, (layoutRd 0b1001000#7 0b0010#4).exact₁ .ldZDec,
      (layoutDisp 0b0#1 0b0#1).exact₂ .lddZ, (layoutRd 0b1001001#7 0b0000#4).exact fun r k => .sts k r,
      (layoutRd 0b1001001#7 0b1100#4).exact₁ .stX, (layoutRd 0b1001001#7 0b1101#4).exact₁ .stXInc,
      (layoutRd 0b1001001#7 0b1110#4).exact₁ .stXDec, (layoutRd 0b1001001#7 0b1001#4).exact₁ .stYInc,
      (layoutRd 0b1001001#7 0b1010#4).exact₁ .stYDec, (layoutDisp 0b1#1 0b1#1).exact₂ fun r q => .stdY q r,
      (layoutRd 0b1001001#7 0b0001#4).exact₁ .stZInc, (layoutRd 0b1001001#7 0b0010#4).exact₁ .stZDec,
      (layoutDisp 0b1#1 0b0#1).exact₂ fun r q => .stdZ q r, (layoutFixed 0x95C8#16).exact₁ fun _ => .lpmR0,
      (layoutRd 0b1001000#7 0b0100#4).exact₁ .lpm, (layoutRd 0b1001000#7 0b0101#4).exact₁ .lpmInc,
      (layoutFixed 0x95D8#16).exact₁ fun _ => .elpmR0, (layoutRd 0b1001000#7 0b0110#4).exact₁ .elpm,
      (layoutRd 0b1001000#7 0b0111#4).exact₁ .elpmInc, (layoutIo 0b10110#5).exact₂ .ioIn,
      (layoutIo 0b10111#5).exact₂ fun r A => .ioOut A r, (layoutRd 0b1001001#7 0b1111#4).exact₁ .push,
      (layoutRd 0b1001000#7 0b1111#4).exact₁ .pop, (layoutFixed 0x95E8#16).exact₁ fun _ => .spm,
      (layoutFixed 0x95F8#16).exact₁ fun _ => .espm⟩

theorem bitMcuRows_exact : ∀ row ∈ bitMcuRows, row.Exact :=
  List.forall_iff_forall_mem.1
    ⟨(layoutRd 0b1001010#7 0b0110#4).exact₁ .lsr, (layoutRd 0b1001010#7 0b0111#4).exact₁ .ror,
      (layoutRd 0b1001010#7 0b0101#4).exact₁ .asr, (layoutRd 0b1001010#7 0b0010#4).exact₁ .swap,
      (layoutIoBit 0b10011010#8).exact₂ .sbi, (layoutIoBit 0b10011000#8).exact₂ .cbi,
      (layoutRegBit 0b1111101#7).exact₂ .bst, (layoutRegBit 0b1111100#7).exact₂ .bld, (layoutFlag 0b0#1).exact₁ .bset,
      (layoutFlag 0b1#1).exact₁ .bclr, (layoutFixed 0x0000#16).exact₁ fun _ => .nop,
      (layoutFixed 0x9588#16).exact₁ fun _ => .sleep, (layoutFixed 0x95A8#16).exact₁ fun _ => .wdr⟩

theorem opcodeRows_exact : ∀ row ∈ opcodeRows, row.Exact := by
  simp only [opcodeRows, List.forall_mem_append]
  exact ⟨⟨⟨arithmeticRows_exact, branchRows_exact⟩, transferRows_exact⟩, bitMcuRows_exact⟩

/-- What decodes is what its row reads, with the word or words that R91 asks for. -/
theorem encode_of_decodeRow {w w2 : Word} {row : OpcodeRow} (hrow : decodeRow w = some row) :
    (row.build w w2).wellFormed = true ∧ expand (row.build w w2) = row.build w w2 ∧
      encode (row.build w w2) = if isTwoWord w then [w, w2] else [w] := by
  obtain ⟨hmem, hacc⟩ := decodeRow_eq_some.1 hrow
  rw [isTwoWord_of_accepts hmem hacc]
  exact opcodeRows_exact row hmem w w2 hacc

/-- Settles O4: the bytes are those of the words that the row read. -/
theorem encodeOfDecode : Obligations.encode_of_decode := by
  intro bytes rest i h
  obtain ⟨w, row, hrow, ⟨htwo, w2, rfl, rfl⟩ | ⟨hone, rfl, rfl⟩⟩ := decodeBytes_eq_instr h
  · obtain ⟨hwf, hexpand, hencode⟩ := encode_of_decodeRow (w2 := w2) hrow
    exact ⟨hwf, hexpand, by simp [encodeBytes, hencode, htwo]⟩
  · obtain ⟨hwf, hexpand, hencode⟩ := encode_of_decodeRow (w2 := 0#16) hrow
    exact ⟨hwf, hexpand, by rw [encodeBytes, hencode, hone]; simp⟩

/-! ### Every primary instruction (O3) -/

/-- The part of a target in the first word of JMP and CALL, and the part that is the second word. -/
theorem target_eq_append (k : BitVec 22) : k = k.extractLsb' 16 6 ++ k.extractLsb' 0 16 :=
  eq_of_lowBitsEq (by simp [-Nat.reduceAdd])

theorem decodes_jmp (k : BitVec 22) : (Instr.jmp k).Decodes := by
  rw [target_eq_append k]
  exact (layoutK22 0b110#3).decodes (fun a k => .jmp (a ++ k)) _ _ rfl rfl (encode_jmp _ _) (.inl rfl)

theorem decodes_call (k : BitVec 22) : (Instr.call k).Decodes := by
  rw [target_eq_append k]
  exact (layoutK22 0b111#3).decodes (fun a k => .call (a ++ k)) _ _ rfl rfl (encode_call _ _) (.inl rfl)

/-- The primaries, constructor by constructor; `expand i = i` leaves out the aliases. -/
theorem decodes_of_primary : ∀ i : Instr, expand i = i → i.wellFormed = true → i.Decodes
  | .add d r, _, h => (layoutRdRr 0b000011#6).decodes₂ .add d r h
  | .adc d r, _, h => (layoutRdRr 0b000111#6).decodes₂ .adc d r h
  | .adiw d K, _, h => (layoutWordK 0b10010110#8).decodes₂ .adiw d K h
  | .sub d r, _, h => (layoutRdRr 0b000110#6).decodes₂ .sub d r h
  | .subi d K, _, h => (layoutRdK 0b0101#4).decodes₂ .subi d K h
  | .sbc d r, _, h => (layoutRdRr 0b000010#6).decodes₂ .sbc d r h
  | .sbci d K, _, h => (layoutRdK 0b0100#4).decodes₂ .sbci d K h
  | .sbiw d K, _, h => (layoutWordK 0b10010111#8).decodes₂ .sbiw d K h
  | .land d r, _, h => (layoutRdRr 0b001000#6).decodes₂ .land d r h
  | .andi d K, _, h => (layoutRdK 0b0111#4).decodes₂ .andi d K h
  | .lor d r, _, h => (layoutRdRr 0b001010#6).decodes₂ .lor d r h
  | .ori d K, _, h => (layoutRdK 0b0110#4).decodes₂ .ori d K h
  | .eor d r, _, h => (layoutRdRr 0b001001#6).decodes₂ .eor d r h
  | .com d, _, h => (layoutRd 0b1001010#7 0b0000#4).decodes₁ .com d h
  | .neg d, _, h => (layoutRd 0b1001010#7 0b0001#4).decodes₁ .neg d h
  | .inc d, _, h => (layoutRd 0b1001010#7 0b0011#4).decodes₁ .inc d h
  | .dec d, _, h => (layoutRd 0b1001010#7 0b1010#4).decodes₁ .dec d h
  | .mul d r, _, h => (layoutRdRr 0b100111#6).decodes₂ .mul d r h
  | .muls d r, _, h => (layoutUpper 0b00000010#8).decodes₂ .muls d r h
  | .mulsu d r, _, h => (layoutMultiplier 0b00000011#8 0b0#1 0b0#1).decodes₂ .mulsu d r h
  | .fmul d r, _, h => (layoutMultiplier 0b00000011#8 0b0#1 0b1#1).decodes₂ .fmul d r h
  | .fmuls d r, _, h => (layoutMultiplier 0b00000011#8 0b1#1 0b0#1).decodes₂ .fmuls d r h
  | .fmulsu d r, _, h => (layoutMultiplier 0b00000011#8 0b1#1 0b1#1).decodes₂ .fmulsu d r h
  | .rjmp k, _, h => (layoutK12 0b1100#4).decodes₁ .rjmp k h
  | .ijmp, _, h => (layoutFixed 0x9409#16).decodes₁ (fun _ => .ijmp) () h
  | .eijmp, _, h => (layoutFixed 0x9419#16).decodes₁ (fun _ => .eijmp) () h
  | .jmp k, _, _ => decodes_jmp k
  | .rcall k, _, h => (layoutK12 0b1101#4).decodes₁ .rcall k h
  | .icall, _, h => (layoutFixed 0x9509#16).decodes₁ (fun _ => .icall) () h
  | .eicall, _, h => (layoutFixed 0x9519#16).decodes₁ (fun _ => .eicall) () h
  | .call k, _, _ => decodes_call k
  | .ret, _, h => (layoutFixed 0x9508#16).decodes₁ (fun _ => .ret) () h
  | .reti, _, h => (layoutFixed 0x9518#16).decodes₁ (fun _ => .reti) () h
  | .cpse d r, _, h => (layoutRdRr 0b000100#6).decodes₂ .cpse d r h
  | .cp d r, _, h => (layoutRdRr 0b000101#6).decodes₂ .cp d r h
  | .cpc d r, _, h => (layoutRdRr 0b000001#6).decodes₂ .cpc d r h
  | .cpi d K, _, h => (layoutRdK 0b0011#4).decodes₂ .cpi d K h
  | .sbrc r b, _, h => (layoutRegBit 0b1111110#7).decodes₂ .sbrc r b h
  | .sbrs r b, _, h => (layoutRegBit 0b1111111#7).decodes₂ .sbrs r b h
  | .sbic A b, _, h => (layoutIoBit 0b10011001#8).decodes₂ .sbic A b h
  | .sbis A b, _, h => (layoutIoBit 0b10011011#8).decodes₂ .sbis A b h
  | .brbs f k, _, h => (layoutBranch 0b111100#6).decodes₂ .brbs f k h
  | .brbc f k, _, h => (layoutBranch 0b111101#6).decodes₂ .brbc f k h
  | .mov d r, _, h => (layoutRdRr 0b001011#6).decodes₂ .mov d r h
  | .movw d r, _, h => (layoutPairs 0b00000001#8).decodes₂ .movw d r h
  | .ldi d K, _, h => (layoutRdK 0b1110#4).decodes₂ .ldi d K h
  | .lds d k, _, h => (layoutRd 0b1001000#7 0b0000#4).decodes .lds d k h rfl rfl (.inl rfl)
  | .ldX d, _, h => (layoutRd 0b1001000#7 0b1100#4).decodes₁ .ldX d h
  | .ldXInc d, _, h => (layoutRd 0b1001000#7 0b1101#4).decodes₁ .ldXInc d h
  | .ldXDec d, _, h => (layoutRd 0b1001000#7 0b1110#4).decodes₁ .ldXDec d h
  | .ldYInc d, _, h => (layoutRd 0b1001000#7 0b1001#4).decodes₁ .ldYInc d h
  | .ldYDec d, _, h => (layoutRd 0b1001000#7 0b1010#4).decodes₁ .ldYDec d h
  | .lddY d q, _, h => (layoutDisp 0b0#1 0b1#1).decodes₂ .lddY d q h
  | .ldZInc d, _, h => (layoutRd 0b1001000#7 0b0001#4).decodes₁ .ldZInc d h
  | .ldZDec d, _, h => (layoutRd 0b1001000#7 0b0010#4).decodes₁ .ldZDec d h
  | .lddZ d q, _, h => (layoutDisp 0b0#1 0b0#1).decodes₂ .lddZ d q h
  | .sts k r, _, h => (layoutRd 0b1001001#7 0b0000#4).decodes (fun r k => .sts k r) r k h rfl rfl (.inl rfl)
  | .stX r, _, h => (layoutRd 0b1001001#7 0b1100#4).decodes₁ .stX r h
  | .stXInc r, _, h => (layoutRd 0b1001001#7 0b1101#4).decodes₁ .stXInc r h
  | .stXDec r, _, h => (layoutRd 0b1001001#7 0b1110#4).decodes₁ .stXDec r h
  | .stYInc r, _, h => (layoutRd 0b1001001#7 0b1001#4).decodes₁ .stYInc r h
  | .stYDec r, _, h => (layoutRd 0b1001001#7 0b1010#4).decodes₁ .stYDec r h
  | .stdY q r, _, h => (layoutDisp 0b1#1 0b1#1).decodes₂ (fun r q => .stdY q r) r q h
  | .stZInc r, _, h => (layoutRd 0b1001001#7 0b0001#4).decodes₁ .stZInc r h
  | .stZDec r, _, h => (layoutRd 0b1001001#7 0b0010#4).decodes₁ .stZDec r h
  | .stdZ q r, _, h => (layoutDisp 0b1#1 0b0#1).decodes₂ (fun r q => .stdZ q r) r q h
  | .lpmR0, _, h => (layoutFixed 0x95C8#16).decodes₁ (fun _ => .lpmR0) () h
  | .lpm d, _, h => (layoutRd 0b1001000#7 0b0100#4).decodes₁ .lpm d h
  | .lpmInc d, _, h => (layoutRd 0b1001000#7 0b0101#4).decodes₁ .lpmInc d h
  | .elpmR0, _, h => (layoutFixed 0x95D8#16).decodes₁ (fun _ => .elpmR0) () h
  | .elpm d, _, h => (layoutRd 0b1001000#7 0b0110#4).decodes₁ .elpm d h
  | .elpmInc d, _, h => (layoutRd 0b1001000#7 0b0111#4).decodes₁ .elpmInc d h
  | .ioIn d A, _, h => (layoutIo 0b10110#5).decodes₂ .ioIn d A h
  | .ioOut A r, _, h => (layoutIo 0b10111#5).decodes₂ (fun r A => .ioOut A r) r A h
  | .push r, _, h => (layoutRd 0b1001001#7 0b1111#4).decodes₁ .push r h
  | .pop d, _, h => (layoutRd 0b1001000#7 0b1111#4).decodes₁ .pop d h
  | .spm, _, h => (layoutFixed 0x95E8#16).decodes₁ (fun _ => .spm) () h
  | .espm, _, h => (layoutFixed 0x95F8#16).decodes₁ (fun _ => .espm) () h
  | .lsr d, _, h => (layoutRd 0b1001010#7 0b0110#4).decodes₁ .lsr d h
  | .ror d, _, h => (layoutRd 0b1001010#7 0b0111#4).decodes₁ .ror d h
  | .asr d, _, h => (layoutRd 0b1001010#7 0b0101#4).decodes₁ .asr d h
  | .swap d, _, h => (layoutRd 0b1001010#7 0b0010#4).decodes₁ .swap d h
  | .sbi A b, _, h => (layoutIoBit 0b10011010#8).decodes₂ .sbi A b h
  | .cbi A b, _, h => (layoutIoBit 0b10011000#8).decodes₂ .cbi A b h
  | .bst d b, _, h => (layoutRegBit 0b1111101#7).decodes₂ .bst d b h
  | .bld d b, _, h => (layoutRegBit 0b1111100#7).decodes₂ .bld d b h
  | .bset f, _, h => (layoutFlag 0b0#1).decodes₁ .bset f h
  | .bclr f, _, h => (layoutFlag 0b1#1).decodes₁ .bclr f h
  | .nop, _, h => (layoutFixed 0x0000#16).decodes₁ (fun _ => .nop) () h
  | .sleep, _, h => (layoutFixed 0x9588#16).decodes₁ (fun _ => .sleep) () h
  | .wdr, _, h => (layoutFixed 0x95A8#16).decodes₁ (fun _ => .wdr) () h

/-- Aliases share words, operand ranges and expansion with their primaries (R96). -/
theorem expand_spec (i : Instr) :
    encode (expand i) = encode i ∧ (expand i).wellFormed = i.wellFormed ∧ expand (expand i) = expand i := by
  cases i <;> exact ⟨rfl, rfl, rfl⟩

/-- Settles O3: the primary whose words they are decodes to itself. -/
theorem decodeOfEncode : Obligations.decode_of_encode := by
  intro i rest hwf
  obtain ⟨hencode, hwf', hexpand⟩ := expand_spec i
  have hdecodes := decodes_of_primary (expand i) hexpand (hwf'.trans hwf) rest
  rwa [encodeBytes, hencode] at hdecodes

/-! ### The length of what decodes (R91) -/

/-- The per-instruction lemmas of `EncodeLength`, for every instruction. -/
theorem encode_length (i : Instr) : (encode i).length = i.words := by
  cases i <;> rfl

theorem isTwoWord_iff_words {w w2 : Word} {row : OpcodeRow} (hrow : decodeRow w = some row) :
    isTwoWord w = true ↔ (row.build w w2).words = 2 := by
  obtain ⟨-, -, hencode⟩ := encode_of_decodeRow (w2 := w2) hrow
  rw [← encode_length, hencode]
  cases isTwoWord w <;> simp

theorem decodeWords_eq_some {w w2 : Word} {i : Instr} :
    decodeWords w w2 = some i ↔ ∃ row, decodeRow w = some row ∧ row.build w w2 = i := by
  unfold decodeWords
  cases decodeRow w <;> simp

/-- Settles O6: the length of what a row reads, and the masks as four rows. -/
theorem twoWordTest : Obligations.two_word_test := by
  intro w
  refine ⟨fun w2 i h => ?_, isTwoWord_of_decodeRow_none, ?_⟩
  · obtain ⟨row, hrow, rfl⟩ := decodeWords_eq_some.1 h
    exact isTwoWord_iff_words hrow
  · simp [isTwoWord, or_assoc]

end Sys2Proof

/-! Fetching and running one instruction, and the obligations O1, O5, O7, O48 and O49: what a fetch answers in each of the cases of
spec/30 R100, and that aliases have the meanings of their primaries (R96). -/

namespace Sys2Proof.Machine

/-! ### What a fetch answers (R100) -/

section Fetch

variable {s : State} {row : OpcodeRow} {w : Word}

theorem progWord_of_lt {a : PcWord} (h : a.toNat < s.cfg.flashWords) :
    progWord s a = .next (Memory.readWord .prog s.prog a.toNat) := if_pos h

theorem progWord_of_le {a : PcWord} (h : s.cfg.flashWords ≤ a.toNat) : progWord s a = .fault (.fetchOutOfRange a) :=
  if_neg (Nat.not_lt.2 h)

theorem fetch_outOfRange (h : s.cfg.flashWords ≤ s.pc.toNat) : fetch s = .fault (.fetchOutOfRange s.pc) := by
  rw [fetch, progWord_of_le h]
  rfl

theorem fetch_reserved (hpc : s.pc.toNat < s.cfg.flashWords) (hw : Memory.readWord .prog s.prog s.pc.toNat = w)
    (hrow : decodeRow w = none) : fetch s = .fault (.reservedInstruction w) := by
  simp [fetch, progWord_of_lt hpc, andThen, hw, hrow]

theorem fetch_unimplemented (hpc : s.pc.toNat < s.cfg.flashWords) (hw : Memory.readWord .prog s.prog s.pc.toNat = w)
    (hrow : decodeRow w = some row) (himpl : s.cfg.implements (mnemonicOf (row.build w 0#16)) = false) :
    fetch s = .fault (.unimplementedInstruction (mnemonicOf (row.build w 0#16))) := by
  simp [fetch, progWord_of_lt hpc, andThen, hw, hrow, himpl]

theorem fetch_oneWord (hpc : s.pc.toNat < s.cfg.flashWords) (hw : Memory.readWord .prog s.prog s.pc.toNat = w)
    (hrow : decodeRow w = some row) (himpl : s.cfg.implements (mnemonicOf (row.build w 0#16)) = true)
    (hone : isTwoWord w = false) : fetch s = .next (row.build w 0#16) := by
  simp [fetch, progWord_of_lt hpc, andThen, hw, hrow, himpl, hone]

theorem fetch_twoWords (hpc : s.pc.toNat < s.cfg.flashWords) (hw : Memory.readWord .prog s.prog s.pc.toNat = w)
    (hrow : decodeRow w = some row) (himpl : s.cfg.implements (mnemonicOf (row.build w 0#16)) = true)
    (htwo : isTwoWord w = true) : fetch s = andThen (progWord s (s.pcPlus 1)) fun w2 => .next (row.build w w2) := by
  simp [fetch, progWord_of_lt hpc, andThen, hw, hrow, himpl, htwo]

/-- Where no reset, no interrupt and no sleep comes first, a step fetches and runs an instruction (R336, R350, R362). -/
theorem step_eq_fetch (hreset : resetDue s = false) (hint : interruptToTake s = none) (hsleep : s.sleeping = false) :
    step s = andThen (fetch s) fun i => andThen (exec i s) fun t => .next (afterInstruction i s t) := by
  simp [step, hreset, hint, hsleep]

theorem step_of_fetch_next {i : Instr} (hreset : resetDue s = false) (hint : interruptToTake s = none)
    (hsleep : s.sleeping = false) (hfetch : fetch s = .next i) :
    step s = andThen (exec i s) fun t => .next (afterInstruction i s t) := by
  rw [step_eq_fetch hreset hint hsleep, hfetch]
  rfl

theorem step_of_fetch_fault {e : Fault} (hreset : resetDue s = false) (hint : interruptToTake s = none)
    (hsleep : s.sleeping = false) (hfetch : fetch s = .fault e) : step s = .fault e := by
  rw [step_eq_fetch hreset hint hsleep, hfetch]
  rfl

end Fetch

/-- A row's mnemonic does not depend on the second word. -/
theorem mnemonicOf_build {row : OpcodeRow} (hrow : row ∈ opcodeRows) (w w2 : Word) :
    mnemonicOf (row.build w w2) = mnemonicOf (row.build w 0#16) := by
  have hall : opcodeRows.Forall fun row => ∀ w w2, mnemonicOf (row.build w w2) = mnemonicOf (row.build w 0#16) := by
    simp [opcodeRows, arithmeticRows, branchRows, transferRows, bitMcuRows, mnemonicOf]
  exact List.forall_iff_forall_mem.1 hall row hrow w w2

/-- Settles O5: the masks of R101, and the fetch of such a word. -/
theorem unassignedWords : Obligations.unassigned_words := by
  refine ⟨fun w => decodeRow_eq_none_iff_reserved.trans exists_reserved_iff, ?_⟩
  intro s w hreset hint hsleep hpc hw hrow
  exact step_of_fetch_fault hreset hint hsleep (fetch_reserved hpc hw hrow)

/-- Settles O49: the fetch stops at the first word, at the check of the mnemonic, or at the second word. -/
theorem fetchFaults : Obligations.fetch_faults := by
  intro s hreset hint hsleep
  refine ⟨fun h => step_of_fetch_fault hreset hint hsleep (fetch_outOfRange h), fun w2 i hpc h => ?_⟩
  obtain ⟨row, hrow, rfl⟩ := decodeWords_eq_some.1 h
  rw [mnemonicOf_build (decodeRow_eq_some.1 hrow).1]
  refine ⟨fun himpl => step_of_fetch_fault hreset hint hsleep (fetch_unimplemented hpc rfl hrow himpl), ?_⟩
  intro himpl hwords hsecond
  refine step_of_fetch_fault hreset hint hsleep ?_
  rw [fetch_twoWords hpc rfl hrow himpl ((isTwoWord_iff_words hrow).2 hwords), progWord_of_le hsecond]
  rfl

/-- Settles O48: the bytes at the program counter are the words that the fetch reads. -/
theorem stepRunsTheDecodedInstruction : Obligations.step_runs_the_decoded_instruction := by
  intro s i rest hreset hint hsleep hdecode hpc hsecond himpl
  refine step_of_fetch_next hreset hint hsleep ?_
  obtain ⟨w, row, hrow, h⟩ := decodeBytes_eq_instr hdecode
  rcases h with ⟨htwo, w2, rfl, hbytes⟩ | ⟨hone, rfl, hbytes⟩
  · rw [mnemonicOf_build (decodeRow_eq_some.1 hrow).1] at himpl
    obtain ⟨hw, htail⟩ := word_of_bytes hbytes
    obtain ⟨hw2, -⟩ := word_of_bytes htail
    have hw2 : Memory.readWord .prog s.prog (s.pcPlus 1).toNat = w2 := hw2
    rw [fetch_twoWords hpc hw hrow himpl htwo, progWord_of_lt (hsecond ((isTwoWord_iff_words hrow).1 htwo)), hw2]
    rfl
  · obtain ⟨hw, -⟩ := word_of_bytes hbytes
    exact fetch_oneWord hpc hw hrow himpl hone

/-- Settles O1: the decoder runs on each word. -/
theorem writtenWordsDecode : Obligations.written_words_decode :=
  ⟨rfl, rfl, rfl, rfl, rfl, rfl, rfl, rfl, rfl, rfl, rfl, rfl, rfl, rfl⟩

/-! ### Aliases (R96) -/

/-- A register written with its own value. -/
theorem setReg_reg_self (s : State) (d : Reg) : s.setReg d (s.reg d) = s := by
  rw [State.setReg, State.reg, Vector.set_getElem_self]

theorem execTst_eq (s : State) (d : Reg) : execTst d s = execLand d d s := by
  rw [execTst, execLand, BitVec.and_self, finishLogic, finishReg, setReg_reg_self]
  rfl

theorem execClr_eq (s : State) (d : Reg) : execClr d s = execEor d d s := by
  rw [execClr, execEor, BitVec.xor_self]
  rfl

section Doubling

variable (a : Byte) (c : Bool)

/-- A byte and the carry added to itself is rotated left through the carry. -/
theorem add8_self_result : (add8 a a c).result = rolByte a c := by
  apply BitVec.eq_of_toNat_eq
  rw [add8_result_toNat, rolByte, toNat_append_eq, BitVec.toNat_ofBool, BitVec.extractLsb'_toNat]
  have hc := c.toNat_le
  omega

/-- The flags of the addition are those of the shift (R281, R283). -/
theorem setFlagsAddSub_add8_self (sreg : Byte) :
    setFlagsAddSub sreg (add8 a a c) = setFlagsShiftLeft sreg a (rolByte a c) := by
  have hcarry (x r : Bool) : carryFrom x x r = x := by cases x <;> cases r <;> rfl
  have hoverflow (x r : Bool) : addOverflow x x r = (r ^^ x) := by cases x <;> cases r <;> rfl
  rw [setFlagsAddSub, add8_h_eq_carryFrom, add8_c_eq_carryFrom, add8_v_eq_addOverflow, hcarry, hcarry, hoverflow,
    add8_self_result, ← msb_eq_getLsbD_seven, ← msb_eq_getLsbD_seven]
  rfl

theorem rolByte_false : rolByte a false = a <<< 1 := by
  apply BitVec.eq_of_toNat_eq
  rw [rolByte, toNat_append_eq, BitVec.toNat_ofBool, BitVec.extractLsb'_toNat, BitVec.toNat_shiftLeft, Nat.shiftLeft_eq]
  simp
  omega

end Doubling

theorem execRol_eq (s : State) (d : Reg) : execRol d s = execAdc d d s := by
  rw [execRol, execAdc, setFlagsAddSub_add8_self, add8_self_result]

theorem execLsl_eq (s : State) (d : Reg) : execLsl d s = execAdd d d s := by
  rw [execLsl, execAdd, setFlagsAddSub_add8_self, add8_self_result, rolByte_false]

/-- A pointer's address lies below PTRMOD where its RAMP register holds RAMPBITS bits. -/
theorem ptrGet_lt_ptrMod {s : State} {p : Ptr} (h : (p.ramp s).toNat < 2 ^ s.cfg.rampBits) :
    ptrGet s p < ptrMod s.cfg := by
  unfold ptrGet ptrMod
  cases s.cfg.dataClass with
  | le256 => exact (s.reg p.lo).isLt
  | le64K => exact (s.pair p.lo).isLt
  | gt64K =>
    have hpair := (s.pair p.lo).isLt
    have hramp := Nat.mul_le_mul_left (2 ^ 16) (Nat.succ_le_of_lt h)
    simp only [toNat_append_eq, Nat.pow_add]
    omega

theorem eaDisp_zero {s : State} {p : Ptr} (h : (p.ramp s).toNat < 2 ^ s.cfg.rampBits) : eaDisp s p 0#6 = ptrGet s p :=
  Nat.mod_eq_of_lt (ptrGet_lt_ptrMod h)

theorem execLdY_eq {s : State} (h : s.rampy.toNat < 2 ^ s.cfg.rampBits) (d : Reg) : execLdY d s = execLddY d 0 s :=
  congrArg (loadByte s d · 1) (eaDisp_zero (p := .Y) h).symm

theorem execLdZ_eq {s : State} (h : s.rampz.toNat < 2 ^ s.cfg.rampBits) (d : Reg) : execLdZ d s = execLddZ d 0 s :=
  congrArg (loadByte s d · 1) (eaDisp_zero (p := .Z) h).symm

theorem execStY_eq {s : State} (h : s.rampy.toNat < 2 ^ s.cfg.rampBits) (r : Reg) : execStY r s = execStdY 0 r s :=
  congrArg (storeByte s · (s.reg r) 1) (eaDisp_zero (p := .Y) h).symm

theorem execStZ_eq {s : State} (h : s.rampz.toNat < 2 ^ s.cfg.rampBits) (r : Reg) : execStZ r s = execStdZ 0 r s :=
  congrArg (storeByte s · (s.reg r) 1) (eaDisp_zero (p := .Z) h).symm

/-- Settles O7: eight aliases have a meaning of their own; the other ones name a flag or a constant of their primary. -/
theorem aliasHasPrimaryEffect : Obligations.alias_has_primary_effect := by
  intro s i hy hz
  cases i with
  | tst d => exact execTst_eq s d
  | clr d => exact execClr_eq s d
  | lsl d => exact execLsl_eq s d
  | rol d => exact execRol_eq s d
  | ldY d => exact execLdY_eq hy d
  | ldZ d => exact execLdZ_eq hz d
  | stY r => exact execStY_eq hy r
  | stZ r => exact execStZ_eq hz r
  | _ => rfl

end Sys2Proof.Machine

/-! Subtraction, 16-bit immediates, complements, increments, TST, CLR, SER and the multiplies: the obligations O10, O13 and O15
to O19. A register pair written with SREG is a shared ending here as a register is above; the multiplies rest on the range of
their products. -/

namespace Sys2Proof.Machine

/-! ### SUB and SUBI (R124, R125) -/

theorem subtractionFlags_of_setFlagsAddSub {t : State} {x a b : Byte} {c : Bool}
    (ht : ∀ f, t.flag f = getFlag (setFlagsAddSub x (sub8 a b c)) f) :
    SubtractionFlags a b (sub8 a b c).result (decide ((sub8 a b c).result = 0)) t := by
  unfold SubtractionFlags
  rw [← sub8_h_eq_borrowFrom, ← sub8_c_eq_borrowFrom, ← sub8_v_eq_subOverflow, ← msb_eq_getLsbD_seven]
  simp [ht, getFlag_setFlagsAddSub, Bool.beq_eq_decide_eq]

/-- What SUB and SUBI answer, `b` being the register or the constant subtracted. -/
theorem finishReg_sub8 (s : State) (d : Reg) (b : Byte) :
    ∃ t, finishReg s d (sub8 (s.reg d) b false).result (setFlagsAddSub s.sreg (sub8 (s.reg d) b false)) = .next t ∧
      ((t.reg d).toNat : Int) = ((s.reg d).toNat - b.toNat : Int) % 256 ∧
      SubtractionFlags (s.reg d) b (t.reg d) (decide (t.reg d = 0)) t ∧ t.pc = s.pcPlus 1 ∧
      OnlyChanged [d] arithFlags s t := by
  refine ⟨_, finishReg_eq _ _ _ _, ?_, ?_, afterReg_pc _ _ _ _,
    onlyChanged_afterReg _ _ _ _ _ (setFlagsAddSub_keeps _ _)⟩
  · simp [sub8_result_toNat]
  · rw [afterReg_reg_same]
    exact subtractionFlags_of_setFlagsAddSub (afterReg_flag _ _ _ _)

/-- Settles O10: one subtraction without carry, of a register or of a constant. -/
theorem subtractionResults : Obligations.subtraction_results :=
  fun s d r K => ⟨finishReg_sub8 s d (s.reg r), finishReg_sub8 s d K⟩

/-! ### TST, CLR and SER (R140 to R142) -/

theorem logicFlags_zero {t : State} (h : LogicFlags 0 t) :
    t.flag .S = false ∧ t.flag .V = false ∧ t.flag .N = false ∧ t.flag .Z = true := by
  obtain ⟨hV, hN, hZ, hS⟩ := h
  exact ⟨hS, hV, hN, hZ⟩

/-- Settles O15: TST writes SREG only, CLR is the logic instruction with result 0, SER writes its register only. -/
theorem tstClrSerResults : Obligations.tst_clr_ser_results := by
  intro s d
  refine ⟨?tst, ?clr, ?ser⟩
  case tst =>
    exact ⟨_, rfl, logicFlags_of_setFlagsLogic fun _ => rfl, rfl, onlyChanged_setSreg s _ 1 _ (setFlagsLogic_keeps _ _)⟩
  case clr =>
    obtain ⟨hS, hV, hN, hZ⟩ := logicFlags_zero (logicFlags_of_setFlagsLogic (afterReg_flag s d 0 (setFlagsLogic s.sreg 0)))
    exact ⟨_, finishReg_eq _ _ _ _, afterReg_reg_same _ _ _ _, hS, hV, hN, hZ, afterReg_pc _ _ _ _,
      onlyChanged_afterReg _ _ _ _ _ (setFlagsLogic_keeps _ _)⟩
  case ser =>
    exact ⟨_, finishReg_eq _ _ _ _, afterReg_reg_same _ _ _ _, afterReg_pc _ _ _ _,
      onlyChanged_afterReg _ _ _ _ _ fun _ _ => rfl⟩

/-! ### COM and NEG (R134, R135) -/

theorem logicFlags_of_complementFlags {t : State} {x r : Byte}
    (ht : ∀ f, t.flag f = getFlag (setFlag (setNZS x r false) .C true) f) : LogicFlags r t := by
  unfold LogicFlags
  rw [← msb_eq_getLsbD_seven]
  simp [ht, getFlag_setFlag, getFlag_setNZS, Bool.beq_eq_decide_eq]

theorem ff_sub_toNat (a : Byte) : (0xFF - a).toNat = 255 - a.toNat := by
  have ha := a.isLt
  rw [BitVec.toNat_sub_of_le (BitVec.le_def.2 (Nat.le_of_lt_succ ha))]
  rfl

theorem zero_sub_toNat (a : Byte) : (0 - a).toNat = (256 - a.toNat) % 256 := by
  rw [BitVec.toNat_sub]
  simp

/-- SetFlagsNeg writes the six arithmetic flags (R135). -/
theorem getFlag_setFlagsNeg (x a r : Byte) (g : Flag) :
    getFlag (setFlagsNeg x a r) g =
      if g = .S then (r.msb ^^ (r == 0x80)) else if g = .V then r == 0x80 else if g = .Z then r == 0
      else if g = .N then r.msb else if g = .C then r != 0 else if g = .H then r.getLsbD 3 || a.getLsbD 3
      else getFlag x g := by
  simp [setFlagsNeg, getFlag_setNZS, getFlag_setFlag]

section Negation

variable {a r : Byte} (hr : r.toNat = (256 - a.toNat) % 256)

/-- The borrow of R14 where the minuend's bit is clear, as NEG computes H. -/
theorem borrowFrom_false (b r : Bool) : borrowFrom false b r = (r || b) := by
  cases b <;> cases r <;> rfl

include hr

/-- A subtraction from zero borrows unless its result is zero. -/
theorem borrowFrom_zero_seven : borrowFrom ((0 : Byte).getLsbD 7) (a.getLsbD 7) (r.getLsbD 7) = decide (r ≠ 0) := by
  have ha := a.isLt
  rw [BitVec.ofNat_eq_ofNat, BitVec.getLsbD_zero, borrowFrom_false, getLsbD_seven, getLsbD_seven, ← Bool.decide_or,
    decide_eq_decide, ne_eq, ← BitVec.toNat_inj, BitVec.toNat_zero]
  omega

/-- A subtraction from zero overflows at the least signed byte only. -/
theorem subOverflow_zero_seven :
    subOverflow ((0 : Byte).getLsbD 7) (a.getLsbD 7) (r.getLsbD 7) = decide (r = 0x80) := by
  have ha := a.isLt
  have h0 : (0 : Byte).toNat = 0 := rfl
  have h80 : (0x80 : Byte).toNat = 128 := rfl
  rw [Bool.eq_iff_iff]
  simp only [subOverflow, getLsbD_seven, Bool.or_eq_true, Bool.and_eq_true, Bool.not_eq_true', decide_eq_true_eq,
    decide_eq_false_iff_not, ← BitVec.toNat_inj, h80, h0]
  omega

theorem subtractionFlags_of_setFlagsNeg {t : State} {x : Byte} (ht : ∀ f, t.flag f = getFlag (setFlagsNeg x a r) f) :
    SubtractionFlags 0 a r (decide (r = 0)) t := by
  unfold SubtractionFlags
  rw [borrowFrom_zero_seven hr, subOverflow_zero_seven hr, ← msb_eq_getLsbD_seven, BitVec.ofNat_eq_ofNat,
    BitVec.getLsbD_zero, borrowFrom_false]
  simp [ht, getFlag_setFlagsNeg, Bool.beq_eq_decide_eq, bne]

end Negation

/-- Settles O16: COM has the flags of a logic instruction but for C, NEG those of a subtraction from zero. -/
theorem complementResults : Obligations.complement_results := by
  intro s d
  refine ⟨?com, ?neg⟩
  case com =>
    refine ⟨_, finishReg_eq _ _ _ _, ?_, ?_, ?_, afterReg_pc _ _ _ _,
      onlyChanged_afterReg _ _ _ _ _ (complementFlags_keep _ _)⟩
    · rw [afterReg_reg_same, ff_sub_toNat]
    · rw [afterReg_reg_same]
      exact logicFlags_of_complementFlags (afterReg_flag _ _ _ _)
    · exact getFlag_setFlag_same _ _ _
  case neg =>
    refine ⟨_, finishReg_eq _ _ _ _, ?_, ?_, ?_, ?_, afterReg_pc _ _ _ _,
      onlyChanged_afterReg _ _ _ _ _ (setFlagsNeg_keeps _ _ _)⟩
    · rw [afterReg_reg_same, zero_sub_toNat]
    · rw [afterReg_reg_same]
      exact subtractionFlags_of_setFlagsNeg (zero_sub_toNat _) (afterReg_flag _ _ _ _)
    · rw [afterReg_flag, afterReg_reg_same, getFlag_setFlagsNeg]
      exact Bool.beq_eq_decide_eq _ _
    · rw [afterReg_flag, afterReg_reg_same, getFlag_setFlagsNeg]
      simp [bne, Bool.beq_eq_decide_eq]

/-! ### INC and DEC (R138, R139) -/

/-- What an instruction answers that sets S, V, N and Z from its result. -/
theorem finishReg_setNZS (s : State) (d : Reg) (r : Byte) (v : Bool) :
    ∃ t, finishReg s d r (setNZS s.sreg r v) = .next t ∧ t.reg d = r ∧ t.flag .V = v ∧
      t.flag .N = (t.reg d).getLsbD 7 ∧ t.flag .Z = decide (t.reg d = 0) ∧ t.flag .S = (t.flag .N ^^ t.flag .V) ∧
      t.pc = s.pcPlus 1 ∧ OnlyChanged [d] logicFlags s t := by
  refine ⟨_, finishReg_eq _ _ _ _, afterReg_reg_same _ _ _ _, ?V, ?N, ?Z, ?S, afterReg_pc _ _ _ _,
    onlyChanged_afterReg _ _ _ _ _ (setNZS_keeps _ _ _)⟩
  case N => rw [afterReg_reg_same, ← msb_eq_getLsbD_seven, afterReg_flag, getFlag_setNZS]; rfl
  all_goals simp [getFlag_setNZS, Bool.beq_eq_decide_eq]

theorem succ_eq_0x80_iff (a : Byte) : a + 1 = 0x80 ↔ a = 0x7F := eq_sub_iff_add_eq.symm

theorem pred_eq_0x7F_iff (a : Byte) : a - 1 = 0x7F ↔ a = 0x80 := sub_eq_iff_eq_add

/-- Settles O17: the result reaches the other sign exactly from the boundary. -/
theorem incrementResults : Obligations.increment_results := by
  intro s d
  refine ⟨?inc, ?dec⟩
  case inc =>
    obtain ⟨t, ht, hreg, hV, hrest⟩ := finishReg_setNZS s d (s.reg d + 1) (s.reg d + 1 == 0x80)
    refine ⟨t, ht, ?_, ?_, hrest⟩
    · rw [hreg, BitVec.toNat_add]
      rfl
    · rw [hV, Bool.beq_eq_decide_eq, decide_eq_decide, succ_eq_0x80_iff]
  case dec =>
    obtain ⟨t, ht, hreg, hV, hrest⟩ := finishReg_setNZS s d (s.reg d - 1) (s.reg d - 1 == 0x7F)
    refine ⟨t, ht, ?_, ?_, hrest⟩
    · rw [hreg, BitVec.toNat_sub, Nat.add_comm]
      rfl
    · rw [hV, Bool.beq_eq_decide_eq, decide_eq_decide, pred_eq_0x7F_iff]

/-! ### The state after a register pair and SREG are written -/

/-- The state after a result pair and SREG are written and the next word is reached. -/
def afterPair (s : State) (d : Reg) (r : Word) (sreg : Byte) : State := ((s.setPair d r).setSreg sreg).advance 1

theorem finishWord_eq (s : State) (d : Reg) (r : Word) (v c : Bool) :
    finishWord s d r v c = .next (afterPair s d r (setFlagsWord s.sreg r v c)) := rfl

theorem finishMultiply_eq (s : State) (p r : Word) :
    finishMultiply s p r = .next (afterPair s 0 r (setFlagsMultiply s.sreg p r)) := rfl

@[simp] theorem afterPair_pair_same (s : State) (d : Reg) (r : Word) (sreg : Byte) :
    (afterPair s d r sreg).pair d = r := by
  simp [afterPair]

@[simp] theorem afterPair_flag (s : State) (d : Reg) (r : Word) (sreg : Byte) (f : Flag) :
    (afterPair s d r sreg).flag f = getFlag sreg f := rfl

@[simp] theorem afterPair_pc (s : State) (d : Reg) (r : Word) (sreg : Byte) :
    (afterPair s d r sreg).pc = s.pcPlus 1 := rfl

theorem onlyChanged_afterPair (s : State) (d : Reg) (r : Word) (sreg : Byte) (flags : List Flag)
    (h : ∀ f, f ∉ flags → getFlag sreg f = s.flag f) : OnlyChanged [d, d + 1] flags s (afterPair s d r sreg) :=
  onlyChanged_setPair_setSreg s d r sreg 1 flags h

/-- The sign bit of a word by its number. -/
theorem msb_eq_getLsbD_fifteen (x : Word) : x.msb = x.getLsbD 15 := BitVec.msb_eq_getLsbD_last x

/-- The sign bit of a word by its value. -/
theorem msb_word (x : Word) : x.msb = decide (0x8000 ≤ x.toNat) := BitVec.msb_eq_decide x

/-! ### ADIW and SBIW (R123, R128) -/

/-- The flags of ADIW and SBIW (R123, R128). -/
theorem getFlag_setFlagsWord (x : Byte) (r : Word) (v c : Bool) (g : Flag) :
    getFlag (setFlagsWord x r v c) g =
      if g = .S then (r.msb ^^ v) else if g = .Z then r == 0 else if g = .N then r.msb else if g = .C then c
      else if g = .V then v else getFlag x g := by
  simp [setFlagsWord, getFlag_setFlag]

/-- What ADIW and SBIW answer, given the result and their V and C. -/
theorem finishWord_results (s : State) (d : Reg) (r : Word) (v c : Bool) :
    ∃ t, finishWord s d r v c = .next t ∧ t.pair d = r ∧ t.flag .C = c ∧ t.flag .V = v ∧
      t.flag .N = (t.pair d).getLsbD 15 ∧ t.flag .Z = decide (t.pair d = 0) ∧ t.flag .S = (t.flag .N ^^ t.flag .V) ∧
      t.pc = s.pcPlus 1 ∧ OnlyChanged [d, d + 1] wordFlags s t := by
  refine ⟨_, finishWord_eq _ _ _ _ _, afterPair_pair_same _ _ _ _, ?C, ?V, ?N, ?Z, ?S, afterPair_pc _ _ _ _,
    onlyChanged_afterPair _ _ _ _ _ (setFlagsWord_keeps _ _ _ _)⟩
  case N => rw [afterPair_pair_same, ← msb_eq_getLsbD_fifteen, afterPair_flag, getFlag_setFlagsWord]; rfl
  all_goals simp [getFlag_setFlagsWord, Bool.beq_eq_decide_eq]

/-- Bit 15 falls from `a` to `r`. -/
theorem msb_and_not_msb (a r : Word) : (a.msb && !r.msb) = decide (0x8000 ≤ a.toNat ∧ r.toNat < 0x8000) := by
  rw [msb_word, msb_word, ← decide_not, ← Bool.decide_and, decide_eq_decide, Nat.not_le]

section WordImmediate

variable {a r : Word} {k : Nat} (hk : k < 64)
include hk

/-- C of ADIW: bit 15 falls where the sum leaves 16 bits. -/
theorem msb_falls_of_add (hr : r.toNat = (a.toNat + k) % 65536) :
    (!r.msb && a.msb) = decide (65535 < a.toNat + k) := by
  have ha := a.isLt
  rw [Bool.and_comm, msb_and_not_msb, decide_eq_decide]
  omega

/-- V of ADIW: bit 15 rises where the sum leaves the signed range. -/
theorem msb_rises_of_add (hr : r.toNat = (a.toNat + k) % 65536) :
    (!a.msb && r.msb) = decide (a.toNat ≤ 0x7FFF ∧ 0x8000 ≤ a.toNat + k) := by
  rw [Bool.and_comm, msb_and_not_msb, decide_eq_decide]
  omega

/-- C of SBIW: bit 15 rises where the difference is negative. -/
theorem msb_rises_of_sub (hr : (r.toNat : Int) = ((a.toNat : Int) - k) % 65536) :
    (r.msb && !a.msb) = decide (a.toNat < k) := by
  rw [msb_and_not_msb, decide_eq_decide]
  omega

/-- V of SBIW: bit 15 falls where the difference leaves the signed range. -/
theorem msb_falls_of_sub (hr : (r.toNat : Int) = ((a.toNat : Int) - k) % 65536) :
    (a.msb && !r.msb) = decide (0x8000 ≤ a.toNat ∧ a.toNat ≤ 0x7FFF + k) := by
  have ha := a.isLt
  rw [msb_and_not_msb, decide_eq_decide]
  omega

end WordImmediate

/-- Settles O13: the result is exact modulo 2^16, and C and V are the moves of its bit 15. -/
theorem wordImmediateResults : Obligations.word_immediate_results := by
  intro s d K
  refine ⟨?adiw, ?sbiw⟩
  case adiw =>
    have hr : (BitVec.ofNat 16 ((s.pair d).toNat + K.toNat)).toNat = ((s.pair d).toNat + K.toNat) % 65536 :=
      BitVec.toNat_ofNat _ _
    obtain ⟨t, ht, hpair, hC, hV, hrest⟩ := finishWord_results s d _ _ _
    exact ⟨t, ht, by rw [hpair, hr], by rw [hC, msb_falls_of_add K.isLt hr], by rw [hV, msb_rises_of_add K.isLt hr], hrest⟩
  case sbiw =>
    have hr : ((BitVec.ofInt 16 ((s.pair d).toNat - K.toNat : Int)).toNat : Int) =
        ((s.pair d).toNat - K.toNat : Int) % 65536 := by
      rw [BitVec.toNat_ofInt]
      omega
    obtain ⟨t, ht, hpair, hC, hV, hrest⟩ := finishWord_results s d _ _ _
    exact ⟨t, ht, by rw [hpair, hr], by rw [hC, msb_rises_of_sub K.isLt hr], by rw [hV, msb_falls_of_sub K.isLt hr], hrest⟩

/-! ### Products (R143 to R148) -/

/-- The flags of the six multiplies (R143 to R148). -/
theorem getFlag_setFlagsMultiply (x : Byte) (p r : Word) (g : Flag) :
    getFlag (setFlagsMultiply x p r) g = if g = .Z then r == 0 else if g = .C then p.msb else getFlag x g := by
  simp [setFlagsMultiply, getFlag_setFlag]

/-- What a multiply answers. -/
theorem finishMultiply_results (s : State) (p r : Word) :
    ∃ t, finishMultiply s p r = .next t ∧ t.pair 0 = r ∧ t.flag .C = p.msb ∧ t.flag .Z = decide (r = 0) ∧
      t.pc = s.pcPlus 1 ∧ OnlyChanged [0, 1] [.Z, .C] s t := by
  refine ⟨_, finishMultiply_eq _ _ _, afterPair_pair_same _ _ _ _, ?_, ?_, afterPair_pc _ _ _ _,
    onlyChanged_afterPair _ _ _ _ _ (setFlagsMultiply_keeps _ _ _)⟩
  all_goals simp [getFlag_setFlagsMultiply, Bool.beq_eq_decide_eq]

theorem product16_toNat (x y : Int) : ((product16 x y).toNat : Int) = x * y % 65536 := by
  rw [product16, BitVec.toNat_ofInt]
  omega

/-- The shift doubles the product modulo 2^16. -/
theorem fractional_product16_toNat (x y : Int) : ((fractional (product16 x y)).toNat : Int) = 2 * (x * y) % 65536 := by
  have hp := product16_toNat x y
  rw [fractional, BitVec.toNat_shiftLeft, Nat.shiftLeft_eq]
  omega

theorem product16_toInt {x y : Int} (h : |x * y| < 32768) : (product16 x y).toInt = x * y := by
  obtain ⟨hlo, hhi⟩ := abs_lt.1 h
  exact BitVec.toInt_ofInt_eq_self (by decide) (by omega) (by omega)

/-- Bit 15 of a product in the signed range is its sign. -/
theorem product16_msb {x y : Int} (h : |x * y| < 32768) : (product16 x y).msb = decide (x * y < 0) := by
  rw [BitVec.msb_eq_toInt, product16_toInt h]

theorem product16_eq_zero_iff {x y : Int} (h : |x * y| < 65536) : product16 x y = 0 ↔ x * y = 0 := by
  have hp := product16_toNat x y
  obtain ⟨hlo, hhi⟩ := abs_lt.1 h
  rw [← BitVec.toNat_inj, BitVec.ofNat_eq_ofNat, BitVec.toNat_zero]
  omega

/-- The shift loses bit 15 only, so `$8000` is the one nonzero product that it would make zero. -/
theorem fractional_eq_zero_iff {x y : Int} (h : |x * y| < 65536) (hne : |x * y| ≠ 32768) :
    fractional (product16 x y) = 0 ↔ x * y = 0 := by
  have hp := fractional_product16_toNat x y
  obtain ⟨hlo, hhi⟩ := abs_lt.1 h
  rw [ne_eq, abs_eq (by decide)] at hne
  rw [← BitVec.toNat_inj, BitVec.ofNat_eq_ofNat, BitVec.toNat_zero]
  omega

/-! ### The range of the products -/

theorem abs_toInt_le (x : Byte) : |x.toInt| ≤ 128 := by
  have hx := x.isLt
  rw [toInt_byte, abs_le]
  split <;> omega

theorem abs_toNat_le (x : Byte) : |(x.toNat : Int)| ≤ 255 := by
  have hx := x.isLt
  rw [abs_le]
  omega

theorem abs_signed_mul_signed_lt (x y : Byte) : |x.toInt * y.toInt| < 32768 := by
  have h := mul_le_mul (abs_toInt_le x) (abs_toInt_le y) (abs_nonneg _) (by decide)
  rw [abs_mul]
  omega

theorem abs_signed_mul_unsigned_lt (x y : Byte) : |x.toInt * y.toNat| < 32768 := by
  have h := mul_le_mul (abs_toInt_le x) (abs_toNat_le y) (abs_nonneg _) (by decide)
  rw [abs_mul]
  omega

/-! ### Two unsigned bytes -/

section Unsigned

variable (x y : Byte)

theorem unsigned_mul_unsigned_lt : x.toNat * y.toNat < 65536 := Nat.mul_lt_mul'' x.isLt y.isLt

/-- The factors of 2^15 are powers of two, of which a byte reaches 2^7 only. -/
theorem unsigned_mul_unsigned_ne : x.toNat * y.toNat ≠ 32768 := by
  intro h
  have hx := x.isLt
  obtain ⟨i, -, hi⟩ := (Nat.dvd_prime_pow Nat.prime_two (m := 15)).1 ⟨y.toNat, h.symm⟩
  have hi7 : i ≤ 7 := Nat.le_of_lt_succ ((Nat.pow_lt_pow_iff_right (by decide)).1 (hi ▸ hx : 2 ^ i < 2 ^ 8))
  have hx7 : x.toNat ≤ 2 ^ 7 := hi ▸ Nat.pow_le_pow_right (by decide) hi7
  have hmul := Nat.mul_le_mul hx7 (Nat.le_of_lt_succ y.isLt)
  omega

/-- The product of two bytes as the integer that `product16` takes. -/
theorem abs_unsigned_mul_unsigned : |(x.toNat : Int) * y.toNat| = (x.toNat * y.toNat : Nat) := by
  rw [← Nat.cast_mul, Nat.abs_cast]

theorem abs_unsigned_mul_unsigned_lt : |(x.toNat : Int) * y.toNat| < 65536 :=
  abs_unsigned_mul_unsigned x y ▸ Int.ofNat_lt.2 (unsigned_mul_unsigned_lt x y)

theorem abs_unsigned_mul_unsigned_ne : |(x.toNat : Int) * y.toNat| ≠ 32768 :=
  abs_unsigned_mul_unsigned x y ▸ mt Int.ofNat_inj.1 (unsigned_mul_unsigned_ne x y)

theorem unsigned_product16_toNat : (product16 x.toNat y.toNat).toNat = x.toNat * y.toNat := by
  have hp := product16_toNat x.toNat y.toNat
  have hlt := unsigned_mul_unsigned_lt x y
  rw [← Nat.cast_mul] at hp
  omega

theorem unsigned_fractional_toNat :
    (fractional (product16 x.toNat y.toNat)).toNat = 2 * (x.toNat * y.toNat) % 65536 := by
  have hp := fractional_product16_toNat x.toNat y.toNat
  rw [← Nat.cast_mul] at hp
  omega

theorem unsigned_product16_eq_zero_iff : product16 x.toNat y.toNat = 0 ↔ x.toNat * y.toNat = 0 := by
  rw [product16_eq_zero_iff (abs_unsigned_mul_unsigned_lt x y), ← Nat.cast_mul, Nat.cast_eq_zero]

theorem unsigned_fractional_eq_zero_iff : fractional (product16 x.toNat y.toNat) = 0 ↔ x.toNat * y.toNat = 0 := by
  rw [fractional_eq_zero_iff (abs_unsigned_mul_unsigned_lt x y) (abs_unsigned_mul_unsigned_ne x y), ← Nat.cast_mul,
    Nat.cast_eq_zero]

end Unsigned

/-! ### MUL, MULS, MULSU and the fractional forms -/

/-- What MULS and MULSU answer, a product in the signed range. -/
theorem finishMultiply_signed (s : State) {x y : Int} (h : |x * y| < 32768) :
    ∃ t, finishMultiply s (product16 x y) (product16 x y) = .next t ∧ (t.pair 0).toInt = x * y ∧
      t.flag .C = decide (x * y < 0) ∧ t.flag .Z = decide (x * y = 0) ∧
      t.pc = s.pcPlus 1 ∧ OnlyChanged [0, 1] [.Z, .C] s t := by
  obtain ⟨t, ht, hpair, hC, hZ, hrest⟩ := finishMultiply_results s (product16 x y) (product16 x y)
  refine ⟨t, ht, ?_, ?_, ?_, hrest⟩
  · rw [hpair, product16_toInt h]
  · rw [hC, product16_msb h]
  · rw [hZ, decide_eq_decide, product16_eq_zero_iff (by omega)]

/-- What FMULS and FMULSU answer, a product in the signed range. -/
theorem finishMultiply_signed_fractional (s : State) {x y : Int} (h : |x * y| < 32768) :
    ∃ t, finishMultiply s (product16 x y) (fractional (product16 x y)) = .next t ∧
      ((t.pair 0).toNat : Int) = 2 * (x * y) % 65536 ∧
      t.flag .C = decide (x * y < 0) ∧ t.flag .Z = decide (x * y = 0) ∧
      t.pc = s.pcPlus 1 ∧ OnlyChanged [0, 1] [.Z, .C] s t := by
  obtain ⟨t, ht, hpair, hC, hZ, hrest⟩ := finishMultiply_results s (product16 x y) (fractional (product16 x y))
  refine ⟨t, ht, ?_, ?_, ?_, hrest⟩
  · rw [hpair, fractional_product16_toNat]
  · rw [hC, product16_msb h]
  · rw [hZ, decide_eq_decide, fractional_eq_zero_iff (by omega) (by omega)]

/-- Settles O18: every product fits in 16 bits, as an unsigned or as a signed number. -/
theorem multiplyResults : Obligations.multiply_results := by
  intro s d r
  refine ⟨?mul, finishMultiply_signed s (abs_signed_mul_signed_lt _ _), finishMultiply_signed s (abs_signed_mul_unsigned_lt _ _)⟩
  case mul =>
    obtain ⟨t, ht, hpair, hC, hZ, hrest⟩ := finishMultiply_results s _ _
    exact ⟨t, ht, by rw [hpair, unsigned_product16_toNat], by rw [hC, hpair, msb_eq_getLsbD_fifteen],
      by rw [hZ, decide_eq_decide, unsigned_product16_eq_zero_iff], hrest⟩

/-- Settles O19: no product is `$8000`, so the shifted product is zero only where the product is. -/
theorem fractionalMultiplyResults : Obligations.fractional_multiply_results := by
  intro s d r
  refine ⟨?fmul, finishMultiply_signed_fractional s (abs_signed_mul_signed_lt _ _),
    finishMultiply_signed_fractional s (abs_signed_mul_unsigned_lt _ _)⟩
  case fmul =>
    obtain ⟨t, ht, hpair, hC, hZ, hrest⟩ := finishMultiply_results s _ _
    exact ⟨t, ht, by rw [hpair, unsigned_fractional_toNat], by rw [hC, msb_word, unsigned_product16_toNat],
      by rw [hZ, decide_eq_decide, unsigned_fractional_eq_zero_iff], hrest⟩

end Sys2Proof.Machine

/-! Compares, jumps, conditional branches and skips: the obligations O12, O21 and O25 to O29. What a compare leaves in Z, C and S
is read off the two bytes once, and every conditional branch is `branchIf` of one flag. -/

namespace Sys2Proof.Machine

/-! ### Compares (R172 to R174) -/

/-- Settles O12: a compare writes the SREG of its subtraction and nothing else. -/
theorem compareResults : Obligations.compare_results := fun s _ _ _ =>
  ⟨⟨_, _, rfl, rfl, rfl, rfl, onlyChanged_setSreg s _ 1 _ (setFlagsAddSub_keeps _ _)⟩,
    ⟨_, _, rfl, rfl, rfl, rfl, onlyChanged_setSreg s _ 1 _ (setFlagsSubCarry_keeps _ _)⟩,
    ⟨_, _, rfl, rfl, rfl, rfl, onlyChanged_setSreg s _ 1 _ (setFlagsAddSub_keeps _ _)⟩⟩

/-! ### The values of the program counter (R5, R25, R26) -/

/-- The program counter has 22 bits, so reducing a value modulo 2^PCBITS loses nothing more. -/
theorem wrapPc_toNat {cfg : Config} (h : cfg.pcBits ≤ 22) (n : Nat) : (wrapPc cfg n).toNat = n % 2 ^ cfg.pcBits := by
  have hlt : n % 2 ^ cfg.pcBits < 2 ^ 22 :=
    (Nat.mod_lt _ (Nat.two_pow_pos _)).trans_le (Nat.pow_le_pow_right (by decide) h)
  rw [wrapPc, BitVec.toNat_ofNat, Nat.mod_eq_of_lt hlt]

theorem relTarget_toNat {s : State} (h : s.cfg.pcBits ≤ 22) (k : Int) :
    ((s.relTarget k).toNat : Int) = (s.pc.toNat + k + 1 : Int) % (2 ^ s.cfg.pcBits : Nat) := by
  have hpos : (0 : Int) < (2 ^ s.cfg.pcBits : Nat) := Int.ofNat_lt.2 (Nat.two_pow_pos _)
  have hle : 2 ^ s.cfg.pcBits ≤ 2 ^ 22 := Nat.pow_le_pow_right (by decide) h
  have hnonneg := Int.emod_nonneg (s.pc.toNat + k + 1 : Int) hpos.ne'
  have hlt := Int.emod_lt_of_pos (s.pc.toNat + k + 1 : Int) hpos
  rw [State.relTarget, BitVec.toNat_ofNat, Nat.mod_eq_of_lt (by omega), Int.toNat_of_nonneg hnonneg]

/-- Going on to the next word is a relative jump by 0 (R26). -/
theorem pcPlus_one_eq_relTarget (s : State) : s.pcPlus 1 = s.relTarget 0 := by
  rw [State.pcPlus, State.relTarget, wrapPc, add_zero]
  rfl

theorem eindZ_toNat (s : State) : (eindZ s).toNat = s.eind.toNat % 64 * 65536 + (s.pair 30).toNat := by
  rw [eindZ, toNat_append_eq, BitVec.extractLsb'_toNat, Nat.shiftRight_zero]
  omega

/-! ### Jumps (R161 to R164) -/

/-- Settles O21: each jump writes the program counter only. -/
theorem jumpResults : Obligations.jump_results := fun s k a h =>
  ⟨⟨_, rfl, relTarget_toNat h k.toInt, onlyChanged_setPc s _⟩,
    ⟨_, rfl, wrapPc_toNat h _, onlyChanged_setPc s _⟩,
    ⟨_, rfl, (wrapPc_toNat h _).trans (by rw [eindZ_toNat]), onlyChanged_setPc s _⟩,
    ⟨_, rfl, wrapPc_toNat h _, onlyChanged_setPc s _⟩⟩

/-! ### Conditional branches (R179 to R198) -/

theorem branchIf_eq {c : Bool} {P : Prop} [Decidable P] (hc : c = true ↔ P) (k : BitVec 7) (s : State) :
    branchIf c k s = if P then .next (s.setPc (s.relTarget k.toInt)) else .next (s.advance 1) :=
  if_congr hc rfl rfl

/-- A branch whose condition says `P` writes the program counter only. -/
theorem branchIf_results {c : Bool} {P : Prop} [Decidable P] (hc : c = true ↔ P) (k : BitVec 7) (s : State) :
    ∃ t, branchIf c k s = .next t ∧ OnlyChanged [] [] s t ∧ t.pc = if P then s.relTarget k.toInt else s.pcPlus 1 := by
  rw [branchIf_eq hc]
  split <;> exact ⟨_, rfl, onlyChanged_setPc s _, rfl⟩

/-- Settles O27: a branch that is not taken is a relative jump by 0. -/
theorem flagBranches : Obligations.flag_branches := by
  intro s f k h
  have hpc (x y : Int) : (((if s.flag f then s.relTarget x else s.relTarget y).toNat : Nat) : Int) =
      (s.pc.toNat + (if s.flag f then x else y) + 1 : Int) % (2 ^ s.cfg.pcBits : Nat) := by
    rw [← apply_ite s.relTarget, relTarget_toNat h]
  refine ⟨?set, ?cleared⟩
  case set =>
    obtain ⟨t, ht, hframe, htpc⟩ := branchIf_results (c := s.flag f) Iff.rfl k s
    rw [pcPlus_one_eq_relTarget] at htpc
    exact ⟨t, ht, hframe, htpc ▸ hpc _ _⟩
  case cleared =>
    obtain ⟨t, ht, hframe, htpc⟩ := branchIf_results (c := !s.flag f) (by rw [Bool.not_eq_true', Bool.eq_false_iff]) k s
    rw [pcPlus_one_eq_relTarget, ite_not] at htpc
    exact ⟨t, ht, hframe, htpc ▸ hpc _ _⟩

/-- Settles O28: each named branch is `branchIf` of its own flag and value. -/
theorem namedBranches : Obligations.named_branches := by
  intro s k x hx
  have hexec : exec x.1 s = branchIf (s.flag x.2.1 == x.2.2) k s := by
    revert x
    simp only [List.forall_mem_cons, beq_true, beq_false]
    exact ⟨rfl, rfl, rfl, rfl, rfl, rfl, rfl, rfl, rfl, rfl, rfl, rfl, rfl, rfl, rfl, rfl, rfl, rfl, nofun⟩
  rw [hexec]
  exact branchIf_results beq_iff_eq k s

/-! ### The relation that a compare leaves in the flags (R199) -/

section Relations

variable (a b : Byte)

theorem sub8_result_eq_zero_iff : (sub8 a b false).result = 0 ↔ a = b := by
  have ha := a.isLt
  have hb := b.isLt
  have hr := sub8_result_toNat a b false
  rw [Bool.toNat_false] at hr
  rw [← BitVec.toNat_inj, ← BitVec.toNat_inj, BitVec.ofNat_eq_ofNat, BitVec.toNat_zero]
  omega

/-- S of a subtraction is the sign of the exact difference, which V corrects the sign of the result to. -/
theorem sub8_sign_xor_overflow :
    ((sub8 a b false).result.msb ^^ (sub8 a b false).v) = decide (a.toInt < b.toInt) := by
  have ha := a.isLt
  have hb := b.isLt
  have hr := sub8_result_toNat a b false
  have hv : (sub8 a b false).v = overflows (a.toInt - b.toInt - (false.toNat : Nat)) := rfl
  rw [Bool.toNat_false] at hr hv
  rw [hv, msb_eq_getLsbD_seven, getLsbD_seven, overflows, Bool.eq_iff_iff, Bool.xor_iff_ne, ne_eq, decide_eq_decide,
    decide_eq_true_iff, toInt_byte, toInt_byte]
  omega

/-- The state holds the SREG of a subtraction of `b` from `a`. -/
def Compared (a b : Byte) (t : State) : Prop := ∃ x, t.sreg = setFlagsAddSub x (sub8 a b false)

variable {a b} {t : State} (h : Compared a b t)
include h

theorem Compared.flag_Z : t.flag .Z = decide (a = b) := by
  obtain ⟨x, hx⟩ := h
  rw [State.flag, hx, getFlag_setFlagsAddSub, ← decide_eq_decide.2 (sub8_result_eq_zero_iff a b)]
  exact Bool.beq_eq_decide_eq _ _

theorem Compared.flag_C : t.flag .C = decide (a.toNat < b.toNat) := by
  obtain ⟨x, hx⟩ := h
  rw [State.flag, hx, getFlag_setFlagsAddSub]
  rfl

theorem Compared.flag_S : t.flag .S = decide (a.toInt < b.toInt) := by
  obtain ⟨x, hx⟩ := h
  rw [State.flag, hx, getFlag_setFlagsAddSub, ← sub8_sign_xor_overflow]
  rfl

end Relations

/-- Settles O29: Z, C and S hold the three relations, and each branch tests one of them. -/
theorem branchesDecideRelations : Obligations.branches_decide_relations := by
  intro s t d r K k i b hi h
  have hcmp : Compared (s.reg d) b t := by
    rcases hi with ⟨rfl | rfl, rfl⟩ | ⟨rfl | rfl, rfl⟩ <;> cases h <;> exact ⟨_, rfl⟩
  refine ⟨branchIf_eq ?Z k t, branchIf_eq ?notZ k t, branchIf_eq ?C k t, branchIf_eq ?notC k t, branchIf_eq ?S k t,
    branchIf_eq ?notS k t⟩
  case Z => rw [hcmp.flag_Z, decide_eq_true_iff]
  case notZ => rw [hcmp.flag_Z, Bool.not_eq_true', decide_eq_false_iff_not]
  case C => rw [hcmp.flag_C, decide_eq_true_iff]
  case notC => rw [hcmp.flag_C, Bool.not_eq_true', decide_eq_false_iff_not, not_lt]
  case S => rw [hcmp.flag_S, decide_eq_true_iff]
  case notS => rw [hcmp.flag_S, Bool.not_eq_true', decide_eq_false_iff_not, not_lt]

/-! ### Skips (R99, R201) -/

section Skips

variable {s u : State} {c : Bool}

theorem skipLen_of_lt (h : (u.pcPlus 1).toNat < u.cfg.flashWords) : skipLen u =
    .next (if isTwoWord (Memory.readWord .prog u.prog (u.pcPlus 1).toNat) then 3 else 2) := by
  rw [skipLen, progWord_of_lt h, andThen_next]

/-- A skip whose condition says `P`, where the next word can be read; `u` is the state after the condition was read. -/
theorem skipIf_results {P : Prop} [Decidable P] (hc : c = true ↔ P) (h : (u.pcPlus 1).toNat < u.cfg.flashWords) :
    ∃ t, skipIf c u = .next t ∧ OnlyChanged [] [] u t ∧
      t.pc = u.pcPlus (if P then
        (if isTwoWord (Memory.readWord .prog u.prog (u.pcPlus 1).toNat) then 3 else 2) else 1) := by
  by_cases hP : P
  · rw [if_pos hP, skipIf, if_pos (hc.2 hP), skipLen_of_lt h, andThen_next]
    exact ⟨_, rfl, onlyChanged_setPc u _, rfl⟩
  · rw [if_neg hP, skipIf, if_neg (mt hc.1 hP)]
    exact ⟨_, rfl, onlyChanged_setPc u _, rfl⟩

/-- A skip where the next word lies beyond program memory. -/
theorem skipIf_atEnd (c : Bool) (hpc : u.pcPlus 1 = s.pcPlus 1) (h : u.cfg.flashWords ≤ (u.pcPlus 1).toNat) :
    SkipAtEnd s u c (skipIf c u) := by
  cases c
  case false => exact ⟨_, rfl, onlyChanged_setPc u _, hpc⟩
  case true =>
    rw [SkipAtEnd, if_pos rfl, skipIf, if_pos rfl, skipLen, progWord_of_le h, hpc, andThen_fault, andThen_fault]

end Skips

/-- Settles O25: the three skips differ in their condition. -/
theorem registerSkips : Obligations.register_skips := fun s d r b =>
  ⟨fun h => ⟨skipIf_results beq_iff_eq h, skipIf_results (Bool.not_eq_true' _).to_iff h, skipIf_results Iff.rfl h⟩,
    fun h => ⟨Bool.beq_eq_decide_eq (s.reg d) (s.reg r) ▸ skipIf_atEnd (s.reg d == s.reg r) rfl h,
      skipIf_atEnd (!(s.reg r).getLsbD b.toNat) rfl h, skipIf_atEnd ((s.reg r).getLsbD b.toNat) rfl h⟩⟩

/-! ### Skips on an I/O bit (R177, R178) -/

theorem ioRead_pc (s : State) (A : BitVec 6) : (ioRead s A).2.pc = s.pc := by
  rcases ioRead_state s A with ⟨-, e⟩ | ⟨-, e⟩ <;> rw [e]
  rfl

/-- A read at one of the device's own locations counts as an access (R65). -/
theorem ioRead_freeCount (s : State) (A : BitVec 6) :
    (ioRead s A).2.freeCount = if ioOwner s.cfg A = .device then s.freeCount + 1 else s.freeCount := by
  rcases ioRead_state s A with ⟨hA, e⟩ | ⟨hA, e⟩ <;> rw [e]
  · exact (if_neg hA).symm
  · exact (if_pos hA).symm

theorem ioRead_cfg (s : State) (A : BitVec 6) : (ioRead s A).2.cfg = s.cfg := (ioRead_quiet (flags := []) s A).cfg

theorem ioRead_pcPlus (s : State) (A : BitVec 6) (n : Nat) : (ioRead s A).2.pcPlus n = s.pcPlus n := by
  rw [State.pcPlus, ioRead_cfg, ioRead_pc, State.pcPlus]

/-- A skip on an I/O bit, where the next word can be read. -/
theorem skipIf_ioRead_results {s : State} (A : BitVec 6) {c : Bool} {P : Prop} [Decidable P] (hc : c = true ↔ P)
    (h : (s.pcPlus 1).toNat < s.cfg.flashWords) :
    ∃ t, skipIf c (ioRead s A).2 = .next t ∧ OnlyChanged [] [] (ioRead s A).2 t ∧
      t.freeCount = (if ioOwner s.cfg A = .device then s.freeCount + 1 else s.freeCount) ∧
      t.pc = s.pcPlus (if P then
        (if isTwoWord (Memory.readWord .prog s.prog (s.pcPlus 1).toNat) then 3 else 2) else 1) := by
  have hu : ((ioRead s A).2.pcPlus 1).toNat < (ioRead s A).2.cfg.flashWords := by rwa [ioRead_pcPlus, ioRead_cfg]
  obtain ⟨t, ht, hframe, hpc⟩ := skipIf_results hc hu
  have hcount : t.freeCount = (ioRead s A).2.freeCount := by
    obtain ⟨-, -, -, -, -, -, hfree⟩ := hframe
    exact hfree
  rw [ioRead_pcPlus, ioRead_pcPlus, ioRead_prog] at hpc
  exact ⟨t, ht, hframe, hcount.trans (ioRead_freeCount s A), hpc⟩

/-- A skip on an I/O bit, where the next word lies beyond program memory. -/
theorem skipIf_ioRead_atEnd {s : State} (A : BitVec 6) (c : Bool) (h : s.cfg.flashWords ≤ (s.pcPlus 1).toNat) :
    SkipAtEnd s (ioRead s A).2 c (skipIf c (ioRead s A).2) :=
  skipIf_atEnd c (ioRead_pcPlus s A 1) (by rwa [ioRead_pcPlus, ioRead_cfg])

/-- Settles O26: the two skips read their location once and differ in the value they test for. -/
theorem ioSkips : Obligations.io_skips := fun _ A _ =>
  ⟨fun h => ⟨skipIf_ioRead_results (lowIo A) (Bool.not_eq_true' _).to_iff h, skipIf_ioRead_results (lowIo A) Iff.rfl h⟩,
    fun h => ⟨skipIf_ioRead_atEnd (lowIo A) _ h, skipIf_ioRead_atEnd (lowIo A) _ h⟩⟩

end Sys2Proof.Machine

/-! Calls and returns: the obligations O22 and O23. What `n` pushes leave, and what `n` pops read, is one induction on `n`, a
push or a pop of one more byte at the end; a return address is the case `n = PCBYTES`. -/

namespace Sys2Proof.Machine

/-! ### Going on -/

theorem andThen_of_next {α β : Type} {r : Result α} {x : α} (h : r = .next x) (f : α → Result β) :
    andThen r f = f x := by
  rw [h, andThen_next]

theorem andThen_of_fault {α β : Type} {r : Result α} {e : Fault} (h : r = .fault e) (f : α → Result β) :
    andThen r f = .fault e := by
  rw [h, andThen_fault]

/-! ### Where stack bytes lie -/

theorem pushAddress_ne {s : State} {i j : Nat} (hij : i < j) (hj : j < 256) : pushAddress s i ≠ pushAddress s j := by
  have hsp := s.sp.isLt
  simp only [pushAddress, wrapSp_toNat, BitVec.toNat_sub, BitVec.toNat_ofNat]
  rcases spMod_cases s.cfg with h | h <;> rw [h] <;> omega

/-- A register of the register file has one address. -/
theorem address_of_locate_reg {cfg : Config} {a : Nat} {j : Reg} (h : locate cfg a = .reg j) :
    a = cfg.rfBase + j.toNat := by
  unfold locate at h
  split at h
  · injection h with h
    rw [← h, BitVec.toNat_ofNat]
    omega
  · split at h
    · cases h
    · split at h <;> cases h

/-- A stack byte in the I/O space does not lie at SPL or SPH. -/
theorem StackByteOk.owner_ne {s : State} {a : Nat} {A : BitVec 6} (h : StackByteOk s a) (hA : locate s.cfg a = .io A) :
    ioOwner s.cfg A ≠ .spl ∧ ioOwner s.cfg A ≠ .sph := by
  obtain ⟨-, hclash⟩ := h
  exact not_or.1 fun hsp => Bool.eq_false_iff.1 hclash ((stackClash_iff _ _).2 ⟨A, hA, hsp⟩)

/-! ### States that agree but for the registers, SRAM, SP and the program counter -/

/-- `t` is `s` but for the fields a push writes itself. -/
def AgreesOffStack (s t : State) : Prop := t = { s with regs := t.regs, sram := t.sram, sp := t.sp, pc := t.pc }

theorem AgreesOffStack.refl (s : State) : AgreesOffStack s s := rfl

theorem AgreesOffStack.cfg {s t : State} (h : AgreesOffStack s t) : t.cfg = s.cfg := by
  rw [AgreesOffStack] at h
  rw [h]

/-- A write of an I/O location other than SPL and SPH depends on the fields that agree only. -/
theorem AgreesOffStack.ioWrite {s t : State} {A : BitVec 6} {v : Byte} (h : AgreesOffStack s t)
    (hA : ioOwner s.cfg A ≠ .spl ∧ ioOwner s.cfg A ≠ .sph) :
    AgreesOffStack (Machine.ioWrite s A v) (Machine.ioWrite t A v) := by
  rw [AgreesOffStack] at h
  rw [h]
  unfold Machine.ioWrite
  cases hO : ioOwner s.cfg A with
  | spl => exact absurd hO hA.1
  | sph => exact absurd hO hA.2
  | _ => rfl

/-! ### What one write of the data space does to each part of the state -/

section Write

variable {s u x : State} {a : Nat} {v : Byte}

theorem memWrite_reg (h : memWrite s a v = .next u) (j : Reg) :
    u.reg j = if locate s.cfg a = .reg j then v else s.reg j := by
  obtain ⟨i, ha, rfl⟩ | ⟨A, ha, rfl⟩ | ⟨ha, rfl⟩ := memWrite_next h <;> rw [ha]
  · simp [State.setReg_reg, eq_comm]
  · obtain ⟨-, -, hregs, -⟩ := ioWrite_frame s A v
    rw [if_neg nofun, State.reg, hregs]
    rfl
  · exact (if_neg nofun).symm

theorem memWrite_sramByte (h : memWrite s a v = .next u) (b : Nat) :
    sramByte u b = if locate s.cfg a = .sram ∧ b = a then v else sramByte s b := by
  obtain ⟨i, ha, rfl⟩ | ⟨A, ha, rfl⟩ | ⟨ha, rfl⟩ := memWrite_next h <;> rw [ha]
  · exact (if_neg fun e => nomatch e.1).symm
  · obtain ⟨-, -, -, hsram, -⟩ := ioWrite_frame s A v
    exact (congrArg (Memory.read .sram · b) hsram).trans (if_neg fun e => nomatch e.1).symm
  · rw [sramByte, Memory.read_write]
    simp [sramByte]

theorem memWrite_pageBuffer (h : memWrite s a v = .next u) : u.pageBuffer = s.pageBuffer := by
  obtain ⟨i, -, rfl⟩ | ⟨A, -, rfl⟩ | ⟨-, rfl⟩ := memWrite_next h
  · rfl
  · obtain ⟨-, -, -, -, -, hbuffer, -⟩ := ioWrite_frame s A v
    exact hbuffer
  · rfl

/-- The part of a stack write that falls in the I/O space, at what lies there. -/
def ioPart (u : State) (l : Loc) (v : Byte) : State :=
  match l with
  | .io A => ioWrite u A v
  | _ => u

/-- Off the registers and SRAM, a stack write is its part in the I/O space. -/
theorem memWrite_agreesOffStack (hok : StackByteOk s a) (h : memWrite s a v = .next u) (hx : AgreesOffStack x s) :
    AgreesOffStack (ioPart x (locate s.cfg a) v) u := by
  obtain ⟨i, ha, rfl⟩ | ⟨A, ha, rfl⟩ | ⟨ha, rfl⟩ := memWrite_next h <;> rw [ha]
  · exact congrArg (State.setReg · i v) hx
  · exact hx.ioWrite (hx.cfg ▸ hok.owner_ne ha)
  · exact congrArg (fun s => { s with sram := Memory.write .sram s.sram a v }) hx

end Write

/-! ### Several pushes -/

section Pushes

variable {s t : State} {f : Nat → Byte} {n : Nat}

theorem pushBytes_append (vs ws : List Byte) (s : State) :
    pushBytes (vs ++ ws) s = andThen (pushBytes vs s) (pushBytes ws) := by
  induction vs generalizing s with
  | nil => rfl
  | cons v vs ih =>
    rw [List.cons_append, pushBytes, pushBytes, andThen_assoc]
    exact congrArg (andThen (push8 s v)) (funext ih)

/-- The state after those of `n` stacked bytes that fall in the I/O space have been written there. -/
def ioPartOfPushes (s : State) (f : Nat → Byte) (n : Nat) : State :=
  (List.range n).foldl (fun u i => ioPart u (locate s.cfg (pushAddress s i)) (f i)) s

theorem ioPartOfPushes_succ (s : State) (f : Nat → Byte) (n : Nat) : ioPartOfPushes s f (n + 1) =
    ioPart (ioPartOfPushes s f n) (locate s.cfg (pushAddress s n)) (f n) := by
  simp [ioPartOfPushes, List.range_succ]

theorem stackIoWrites_eq (s : State) (r : PcWord) :
    stackIoWrites s r = ioPartOfPushes s (returnByte r) s.cfg.pcBytes := rfl

/-- What `n` pushes of the bytes `f 0`, `f 1`, … leave of the state `s`. -/
structure Pushed (s : State) (f : Nat → Byte) (n : Nat) (t : State) : Prop where
  sp : t.sp = wrapSp s.cfg (s.sp - BitVec.ofNat 16 n)
  reg_written : ∀ i j, i < n → locate s.cfg (pushAddress s i) = .reg j → t.reg j = f i
  reg_kept : ∀ j, (∀ i, i < n → locate s.cfg (pushAddress s i) ≠ .reg j) → t.reg j = s.reg j
  sram_written : ∀ i, i < n → locate s.cfg (pushAddress s i) = .sram → sramByte t (pushAddress s i) = f i
  sram_kept : ∀ a, (∀ i, i < n → a ≠ pushAddress s i) → sramByte t a = sramByte s a
  prog : t.prog = s.prog
  pageBuffer : t.pageBuffer = s.pageBuffer
  cfg : t.cfg = s.cfg
  elsewhere : AgreesOffStack (ioPartOfPushes s f n) t

theorem Pushed.zero (hs : SpInRange s) (f : Nat → Byte) : Pushed s f 0 s where
  sp := by rw [BitVec.sub_zero, hs]
  reg_written := nofun
  reg_kept _ _ := rfl
  sram_written := nofun
  sram_kept _ _ := rfl
  prog := rfl
  pageBuffer := rfl
  cfg := rfl
  elsewhere := AgreesOffStack.refl s

theorem Pushed.sp_toNat (h : Pushed s f n t) : t.sp.toNat = pushAddress s n := by rw [h.sp, pushAddress]

theorem Pushed.succ (h : Pushed s f n t) (hn : n < 256) (hok : StackByteOk s (pushAddress s n)) {u : State}
    (hu : push8 t (f n) = .next u) : Pushed s f (n + 1) u := by
  have hsp := push8_sp hu
  have hprog := push8_prog hu
  have hcfg := push8_cfg hu
  obtain ⟨-, w, hw, rfl⟩ := push8_next hu
  rw [h.sp_toNat] at hw
  have hreg := memWrite_reg hw
  have hsram := memWrite_sramByte hw
  rw [h.cfg] at hreg hsram
  have hapart {i : Nat} (hi : i < n + 1) (hne : i ≠ n) : pushAddress s i ≠ pushAddress s n :=
    pushAddress_ne (by omega) hn
  refine ⟨?sp, ?reg_written, ?reg_kept, ?sram_written, ?sram_kept, hprog.trans h.prog,
    (memWrite_pageBuffer hw).trans h.pageBuffer, hcfg.trans h.cfg, ?elsewhere⟩
  case sp => rw [hsp, h.cfg, h.sp, wrapSp_wrapSp_sub, sub_sub, BitVec.ofNat_add]; rfl
  case reg_written =>
    intro i j hi hloc
    by_cases hin : i = n
    · subst hin
      exact (hreg j).trans (if_pos hloc)
    · have hother : locate s.cfg (pushAddress s n) ≠ .reg j := fun e =>
        hapart hi hin ((address_of_locate_reg hloc).trans (address_of_locate_reg e).symm)
      exact ((hreg j).trans (if_neg hother)).trans (h.reg_written i j (by omega) hloc)
  case reg_kept =>
    intro j hj
    exact ((hreg j).trans (if_neg (hj n (Nat.lt_succ_self n)))).trans
      (h.reg_kept j fun i hi => hj i (Nat.lt_succ_of_lt hi))
  case sram_written =>
    intro i hi hloc
    by_cases hin : i = n
    · subst hin
      exact (hsram _).trans (if_pos ⟨hloc, rfl⟩)
    · exact ((hsram _).trans (if_neg fun e => hapart hi hin e.2)).trans (h.sram_written i (by omega) hloc)
  case sram_kept =>
    intro a ha
    exact ((hsram a).trans (if_neg fun e => ha n (Nat.lt_succ_self n) e.2)).trans
      (h.sram_kept a fun i hi => ha i (Nat.lt_succ_of_lt hi))
  case elsewhere =>
    have hio := memWrite_agreesOffStack (hok.of_cfg h.cfg) hw h.elsewhere
    rw [h.cfg, ← ioPartOfPushes_succ] at hio
    exact congrArg (State.setSp · _) hio

/-- Pushes complete where every byte can be stacked. -/
theorem exists_pushed (hs : SpInRange s) (hn : n ≤ 256) (hok : ∀ i, i < n → StackByteOk s (pushAddress s i)) :
    ∃ t, pushBytes ((List.range n).map f) s = .next t ∧ Pushed s f n t := by
  induction n with
  | zero => exact ⟨s, rfl, Pushed.zero hs f⟩
  | succ n ih =>
    obtain ⟨t, ht, hpushed⟩ := ih (by omega) fun i hi => hok i (Nat.lt_succ_of_lt hi)
    have hokn := hok n (Nat.lt_succ_self n)
    obtain ⟨u, hu⟩ := push8_ok (s := t) (f n) (hpushed.sp_toNat ▸ hokn.of_cfg hpushed.cfg)
    refine ⟨u, ?_, hpushed.succ (by omega) hokn hu⟩
    rw [List.range_succ, List.map_append, pushBytes_append, ht, andThen_next]
    exact andThen_of_next hu _

/-- A push at an address that does not exist faults (R64). -/
theorem push8_unmapped {a : Nat} (v : Byte) (ha : s.sp.toNat = a) (h : locate s.cfg a = .unmapped) :
    push8 s v = .fault (.unmappedData a) := by
  simp [push8, ha, stackClash, h, memWrite]

/-- The first byte that has no place stops the pushes. -/
theorem pushBytes_unmapped {i : Nat} (hs : SpInRange s) (hi : i < n) (hi256 : i ≤ 256)
    (hok : ∀ j, j < i → StackByteOk s (pushAddress s j)) (h : locate s.cfg (pushAddress s i) = .unmapped) :
    pushBytes ((List.range n).map f) s = .fault (.unmappedData (pushAddress s i)) := by
  obtain ⟨k, rfl⟩ : ∃ k, n = i + (k + 1) := ⟨n - i - 1, by omega⟩
  obtain ⟨t, ht, hpushed⟩ := exists_pushed (f := f) hs hi256 hok
  rw [List.range_add, List.map_append, pushBytes_append, ht, andThen_next, List.range_succ_eq_map, List.map_cons,
    List.map_cons, pushBytes, push8_unmapped _ hpushed.sp_toNat (hpushed.cfg ▸ h), andThen_fault]

end Pushes

/-! ### Calls (R165 to R168) -/

section Calls

variable {s t : State} {r : PcWord}

theorem AgreesOffStack.frames (h : AgreesOffStack s t) : t.sreg = s.sreg ∧ SameSpecial s t ∧
    (∀ A, ioByte t A = ioByte s A) ∧ SameHidden s t ∧ t.freeCount = s.freeCount := by
  rw [AgreesOffStack] at h
  rw [h]
  exact ⟨rfl, SameSpecial.refl s, fun _ => rfl, SameHidden.refl s, rfl⟩

theorem pcBytes_le (cfg : Config) : cfg.pcBytes ≤ 3 := by
  rcases pcBytes_cases cfg with ⟨-, hb⟩ | hb <;> omega

/-- The bytes stacked for a return address that fits the program counter (R72). -/
theorem pushPc_eq_returnByte (hr : r.toNat < 2 ^ s.cfg.pcBits) :
    pushPc s r = pushBytes ((List.range s.cfg.pcBytes).map (returnByte r)) s := by
  rw [pushPc_eq, returnBytes, wrapPc_of_lt _ _ hr]

theorem Pushed.pushedPc (h : Pushed s (returnByte r) s.cfg.pcBytes t) (target : PcWord) :
    PushedPc s (t.setPc target) r := by
  have helsewhere := h.elsewhere
  rw [← stackIoWrites_eq] at helsewhere
  obtain ⟨hsreg, hspecial, hio, hhidden, hcount⟩ := helsewhere.frames
  refine ⟨h.sp, fun i hi => ?_, h.sram_kept, h.reg_kept, fun b => congrArg (Memory.read .prog · b) h.prog,
    fun b => congrArg (Memory.read .pageBuffer · b) h.pageBuffer, hsreg, hspecial, hio, hhidden, hcount⟩
  cases hloc : locate s.cfg (pushAddress s i) with
  | reg j => exact h.reg_written i j hi hloc
  | sram => exact h.sram_written i hi hloc
  | _ => trivial

/-- A call whose return address can be stacked. -/
theorem callTo_results (target : PcWord) (hs : SpInRange s) (hr : r.toNat < 2 ^ s.cfg.pcBits)
    (hok : ∀ i, i < s.cfg.pcBytes → StackByteOk s (pushAddress s i)) :
    ∃ t, callTo s r target = .next t ∧ t.pc = target ∧ PushedPc s t r := by
  have hn := pcBytes_le s.cfg
  obtain ⟨t, ht, hpushed⟩ := exists_pushed (f := returnByte r) hs (by omega) hok
  refine ⟨t.setPc target, ?_, rfl, hpushed.pushedPc target⟩
  rw [callTo, pushPc_eq_returnByte hr, ht, andThen_next]

/-- A call stops at the first byte of its return address that has no place (R64). -/
theorem callTo_unmapped {i : Nat} (target : PcWord) (hs : SpInRange s) (hr : r.toNat < 2 ^ s.cfg.pcBits)
    (hi : i < s.cfg.pcBytes) (hok : ∀ j, j < i → StackByteOk s (pushAddress s j))
    (h : locate s.cfg (pushAddress s i) = .unmapped) :
    callTo s r target = .fault (.unmappedData (pushAddress s i)) := by
  have hn := pcBytes_le s.cfg
  rw [callTo, pushPc_eq_returnByte hr, pushBytes_unmapped hs hi (by omega) hok h, andThen_fault]

end Calls

/-- Settles O22: the four calls differ in their target and in the length of their own instruction. -/
theorem callResults : Obligations.call_results := by
  intro s k a hs
  have hr (n : Nat) : (s.pcPlus n).toNat < 2 ^ s.cfg.pcBits := wrapPc_lt _ _
  refine ⟨fun hok => ⟨callTo_results _ hs (hr 1) hok, callTo_results _ hs (hr 1) hok, ?eicall,
    callTo_results _ hs (hr 2) hok⟩, fun i hi hok h x hx => ?fault⟩
  case eicall =>
    rw [← eindZ_toNat]
    exact callTo_results _ hs (hr 1) hok
  case fault =>
    simp only [List.mem_cons, List.not_mem_nil, or_false] at hx
    rcases hx with rfl | rfl | rfl | rfl <;> exact callTo_unmapped _ hs (hr _) hi hok h

/-! ### Reading a stack byte -/

/-- `t` is `s` but for what an access of the device's own locations changes. -/
def AgreesOffDevice (s t : State) : Prop :=
  t = { s with device := t.device, pending := t.pending, resetDemanded := t.resetDemanded, watchdog := t.watchdog,
               freeCount := t.freeCount }

section Read

variable {s t u : State} {a : Nat}

theorem AgreesOffDevice.cfg (h : AgreesOffDevice s t) : t.cfg = s.cfg := by
  rw [AgreesOffDevice] at h
  rw [h]

theorem AgreesOffDevice.frames (h : AgreesOffDevice s t) :
    SameRegsBut [] s t ∧ SameSpecial s t ∧ SameMemory s t ∧ t.sreg = s.sreg := by
  rw [AgreesOffDevice] at h
  rw [h]
  exact ⟨fun _ _ => rfl, SameSpecial.refl s, SameMemory.refl s, rfl⟩

theorem AgreesOffDevice.memRead {b : Byte} (hs : AgreesOffDevice s t) (h : memRead t a = .next (b, u)) :
    AgreesOffDevice s u := by
  obtain ⟨-, rfl | ⟨p, rfl⟩⟩ := memRead_next h
  · exact hs
  · exact congrArg (State.setDevicePart · p) hs

theorem ioRead_setSp {A : BitVec 6} (hA : ioOwner s.cfg A ≠ .spl ∧ ioOwner s.cfg A ≠ .sph) (v : Word) :
    ioRead (s.setSp v) A = ((ioRead s A).1, (ioRead s A).2.setSp v) := by
  unfold ioRead
  rw [State.setSp_cfg]
  cases hO : ioOwner s.cfg A with
  | spl => exact absurd hO hA.1
  | sph => exact absurd hO hA.2
  | _ => rfl

/-- Where the byte is not SP's own, reading it does not depend on SP. -/
theorem memRead_setSp (hok : StackByteOk s a) :
    ∃ b u, memRead s a = .next (b, u) ∧ ∀ v, memRead (s.setSp v) a = .next (b, u.setSp v) := by
  cases hloc : locate s.cfg a with
  | unmapped => exact absurd hloc hok.1
  | reg i => exact ⟨_, _, by rw [memRead, hloc], fun v => by rw [memRead, State.setSp_cfg, hloc]; rfl⟩
  | sram => exact ⟨_, _, by rw [memRead, hloc], fun v => by rw [memRead, State.setSp_cfg, hloc]; rfl⟩
  | io A =>
    refine ⟨_, _, by rw [memRead, hloc], fun v => ?_⟩
    rw [memRead, State.setSp_cfg, hloc]
    exact congrArg Host.Outcome.next (ioRead_setSp (hok.owner_ne hloc) v)

/-- Off the device's own locations a read changes nothing. -/
theorem memRead_notDevice {b : Byte} (hdev : NotDevice s a) (h : memRead s a = .next (b, u)) : u = s := by
  cases hloc : locate s.cfg a with
  | io A =>
    rw [memRead, hloc] at h
    obtain ⟨-, e⟩ | ⟨hA, -⟩ := ioRead_state s A
    · injection h with h
      rw [← e, h]
    · exact absurd hA (hdev A hloc)
  | unmapped =>
    rw [memRead, hloc] at h
    cases h
  | reg | sram =>
    rw [memRead, hloc] at h
    cases h
    rfl

end Read

/-! ### Several pops -/

section Pops

variable {s t : State} {n : Nat} {bs : List Byte}

theorem popBytes_add (m n : Nat) (s : State) : popBytes (m + n) s =
    andThen (popBytes m s) fun r => andThen (popBytes n r.2) fun q => .next (r.1 ++ q.1, q.2) := by
  induction m generalizing s with
  | zero => rw [Nat.zero_add, popBytes, andThen_next]; exact (andThen_pure _).symm
  | succ m ih =>
    rw [Nat.succ_add, popBytes, popBytes, andThen_assoc]
    simp only [ih, andThen_assoc, andThen_next, List.cons_append]

theorem popBytes_one (s : State) : popBytes 1 s = andThen (pop8 s) fun r => .next ([r.1], r.2) := rfl

/-- The state after a stack byte is read, SP itself not moved. -/
def readPart (u : State) (a : Nat) : State :=
  match memRead u a with
  | .next r => r.2
  | _ => u

/-- The state after the next `n` stack bytes are read, SP itself not moved. -/
def readPartOfPops (s : State) (n : Nat) : State := (List.range n).foldl (fun u i => readPart u (pullAddress s i)) s

theorem readPartOfPops_succ (s : State) (n : Nat) :
    readPartOfPops s (n + 1) = readPart (readPartOfPops s n) (pullAddress s n) := by
  simp [readPartOfPops, List.range_succ]

theorem stackReads_eq (s : State) : stackReads s = readPartOfPops s s.cfg.pcBytes := rfl

/-- What `n` pops from the state `s` answer: the bytes `bs` and the state `t`. -/
structure Popped (s : State) (n : Nat) (bs : List Byte) (t : State) : Prop where
  state : t = (readPartOfPops s n).setSp t.sp
  reads : AgreesOffDevice s (readPartOfPops s n)
  sp : wrapSp s.cfg t.sp = wrapSp s.cfg (s.sp + BitVec.ofNat 16 n)
  sp_inRange : 0 < n → SpInRange t
  length : bs.length = n
  off_device : (∀ i, i < n → NotDevice s (pullAddress s i)) →
    readPartOfPops s n = s ∧ ∀ i, i < n → dataByte s (pullAddress s i) = bs[i]?

theorem Popped.zero (s : State) : Popped s 0 [] s where
  state := rfl
  reads := rfl
  sp := by rw [BitVec.add_zero]
  sp_inRange := nofun
  length := rfl
  off_device _ := ⟨rfl, nofun⟩

theorem Popped.cfg (h : Popped s n bs t) : t.cfg = s.cfg := by
  rw [h.state, State.setSp_cfg, h.reads.cfg]

theorem Popped.pullAddress_zero (h : Popped s n bs t) : pullAddress t 0 = pullAddress s n := by
  rw [pullAddress, pullAddress, h.cfg, ← wrapSp_wrapSp_add, h.sp, wrapSp_wrapSp_add, BitVec.ofNat_add n, add_assoc]

theorem Popped.succ (h : Popped s n bs t) (hok : StackByteOk s (pullAddress s n)) :
    ∃ b u, pop8 t = .next (b, u) ∧ Popped s (n + 1) (bs ++ [b]) u := by
  obtain ⟨b, u, hread, hsp⟩ := memRead_setSp (hok.of_cfg h.reads.cfg)
  have hpart : readPartOfPops s (n + 1) = u := by rw [readPartOfPops_succ, readPart, hread]
  have hclash : ¬stackClash t.cfg (pullAddress t 0) = true := by
    rw [h.pullAddress_zero, h.cfg]
    exact Bool.eq_false_iff.1 hok.2
  have hpop : pop8 t = .next (b, u.setSp (wrapSp t.cfg (t.sp + 1))) := by
    refine (if_neg hclash).trans ?_
    have hstate (v : Word) : t.setSp v = (readPartOfPops s n).setSp v := by
      rw [h.state]
      rfl
    rw [hstate]
    exact (congrArg (memRead _) h.pullAddress_zero).trans (hsp _)
  refine ⟨b, _, hpop, ?state, ?reads, ?sp, fun _ => ?sp_inRange, by simp [h.length], fun hdev => ?off_device⟩
  case state =>
    rw [hpart]
    rfl
  case reads =>
    exact hpart ▸ h.reads.memRead hread
  case sp =>
    rw [State.setSp_sp, h.cfg, wrapSp_wrapSp, ← wrapSp_wrapSp_add, h.sp, wrapSp_wrapSp_add, BitVec.ofNat_add,
      add_assoc]
    rfl
  case sp_inRange =>
    rw [SpInRange, State.setSp_sp, pop8_cfg hpop, wrapSp_wrapSp]
  case off_device =>
    obtain ⟨hsame, hbytes⟩ := h.off_device fun i hi => hdev i (Nat.lt_succ_of_lt hi)
    rw [hsame] at hread
    refine ⟨hpart.trans (memRead_notDevice (hdev n (Nat.lt_succ_self n)) hread), fun i hi => ?_⟩
    by_cases hin : i = n
    · subst hin
      rw [dataByte, hread, ← h.length, List.getElem?_concat_length]
    · have hi : i < n := by omega
      rw [hbytes i hi, List.getElem?_append_left (h.length ▸ hi)]

/-- Pops complete where every byte can be read. -/
theorem exists_popped (hok : ∀ i, i < n → StackByteOk s (pullAddress s i)) :
    ∃ bs t, popBytes n s = .next (bs, t) ∧ Popped s n bs t := by
  induction n with
  | zero => exact ⟨[], s, rfl, Popped.zero s⟩
  | succ n ih =>
    obtain ⟨bs, t, ht, hpopped⟩ := ih fun i hi => hok i (Nat.lt_succ_of_lt hi)
    obtain ⟨b, u, hu, hpopped⟩ := hpopped.succ (hok n (Nat.lt_succ_self n))
    refine ⟨_, u, ?_, hpopped⟩
    rw [popBytes_add, ht, andThen_next, popBytes_one, hu, andThen_next, andThen_next]

/-- A pop at an address that does not exist faults (R63). -/
theorem pop8_unmapped (h : locate s.cfg (pullAddress s 0) = .unmapped) :
    pop8 s = .fault (.unmappedData (pullAddress s 0)) := by
  have hclash : ¬stackClash s.cfg (pullAddress s 0) = true := by rw [stackClash, h]; exact Bool.false_ne_true
  refine (if_neg hclash).trans ?_
  have hread : memRead (s.setSp (wrapSp s.cfg (s.sp + 1))) (pullAddress s 0) =
      .fault (.unmappedData (pullAddress s 0)) := by
    rw [memRead, State.setSp_cfg, h]
  exact hread

/-- The first byte that has no place stops the pops. -/
theorem popBytes_unmapped {i : Nat} (hi : i < n) (hok : ∀ j, j < i → StackByteOk s (pullAddress s j))
    (h : locate s.cfg (pullAddress s i) = .unmapped) :
    popBytes n s = .fault (.unmappedData (pullAddress s i)) := by
  obtain ⟨k, rfl⟩ : ∃ k, n = i + (k + 1) := ⟨n - i - 1, by omega⟩
  obtain ⟨bs, t, ht, hpopped⟩ := exists_popped hok
  have haddr := hpopped.pullAddress_zero
  rw [← haddr, ← hpopped.cfg] at h
  rw [popBytes_add, ht, andThen_next, popBytes, pop8_unmapped h, andThen_fault, andThen_fault, haddr]

end Pops

/-! ### Returns (R169, R170) -/

section Returns

variable {s t : State} {bs : List Byte}

/-- The bytes popped are the return address, the most significant first (R73). -/
theorem stackedPc_eq_joinBytes (hlen : bs.length = s.cfg.pcBytes)
    (hbytes : ∀ i, i < s.cfg.pcBytes → dataByte s (pullAddress s i) = bs[i]?) :
    stackedPc s = some (joinBytes bs) := by
  rcases pcBytes_cases s.cfg with ⟨-, hb⟩ | hb <;> rw [hb] at hlen hbytes
  · obtain ⟨x, y, rfl⟩ := List.length_eq_two.1 hlen
    have hjoin : joinBytes [x, y] = x.toNat * 256 + y.toNat := by
      simp only [joinBytes, List.foldl_cons, List.foldl_nil]
      omega
    rw [hjoin, stackedPc, hbytes 0 (by decide), hbytes 1 (by decide), hb]
    rfl
  · obtain ⟨x, y, z, rfl⟩ := List.length_eq_three.1 hlen
    have hjoin : joinBytes [x, y, z] = x.toNat * 65536 + y.toNat * 256 + z.toNat := by
      simp only [joinBytes, List.foldl_cons, List.foldl_nil]
      omega
    rw [hjoin, stackedPc, hbytes 0 (by decide), hbytes 1 (by decide), hbytes 2 (by decide), hb]
    rfl

/-- A return address that can be popped; `v` is the SREG that the return leaves. -/
theorem popPc_results (hok : ∀ i, i < s.cfg.pcBytes → StackByteOk s (pullAddress s i)) :
    ∃ a t, popPc s = .next (a, t) ∧ t.sreg = s.sreg ∧ (∀ v, PoppedPc s ((t.setSreg v).setPc a)) ∧
      ((∀ i, i < s.cfg.pcBytes → NotDevice s (pullAddress s i)) →
        t.freeCount = s.freeCount ∧ some a = (stackedPc s).map (wrapPc s.cfg)) := by
  obtain ⟨bs, t, ht, hpopped⟩ := exists_popped hok
  have hpos : 0 < s.cfg.pcBytes := by rcases pcBytes_cases s.cfg with ⟨-, hb⟩ | hb <;> omega
  have hsp : t.sp = wrapSp s.cfg (s.sp + BitVec.ofNat 16 s.cfg.pcBytes) := by
    rw [← hpopped.sp, ← hpopped.cfg, hpopped.sp_inRange hpos]
  obtain ⟨hregs, hspecial, hmemory, hsreg⟩ := hpopped.reads.frames
  have hstate := hpopped.state
  rw [← stackReads_eq] at hstate hregs hspecial hmemory hsreg
  refine ⟨_, t, by rw [popPc_eq, ht, andThen_next], ?_, fun v => ⟨hsp, ?_⟩, fun hdev => ?_⟩
  · rw [hstate]
    exact hsreg
  · rw [hstate]
    exact ⟨hregs, hspecial, hmemory, SameHidden.refl _, rfl⟩
  · obtain ⟨hsame, hbytes⟩ := hpopped.off_device hdev
    refine ⟨?_, by rw [stackedPc_eq_joinBytes hpopped.length hbytes, Option.map_some]⟩
    rw [hstate, stackReads_eq, hsame]
    rfl

/-- A return stops at the first byte of the address that has no place (R63). -/
theorem popPc_unmapped {i : Nat} (hi : i < s.cfg.pcBytes) (hok : ∀ j, j < i → StackByteOk s (pullAddress s j))
    (h : locate s.cfg (pullAddress s i) = .unmapped) : popPc s = .fault (.unmappedData (pullAddress s i)) := by
  rw [popPc_eq, popBytes_unmapped hi hok h, andThen_fault]

end Returns

/-- Settles O23: both returns pop the address; RETI sets I besides. -/
theorem returnResults : Obligations.return_results := by
  intro s
  refine ⟨fun hok => ?completes, fun i hi hok h => ?faults⟩
  case completes =>
    obtain ⟨a, t, ht, hsreg, hpopped, hpc⟩ := popPc_results hok
    refine ⟨⟨t.setPc a, ?ret, hpopped t.sreg, hsreg, hpc⟩,
      ⟨(t.setSreg (setFlag t.sreg .I true)).setPc a, ?reti, hpopped _, getFlag_setFlag_same _ _ _, ?flags, hpc⟩⟩
    case ret => exact andThen_of_next ht _
    case reti => exact andThen_of_next ht _
    case flags =>
      intro f hf
      exact (setFlag_keeps t.sreg .I true f hf).trans (congrArg (getFlag · f) hsreg)
  case faults =>
    have hpop := popPc_unmapped hi hok h
    exact ⟨andThen_of_fault hpop _, andThen_of_fault hpop _⟩

end Sys2Proof.Machine

/-! Register moves, and loads and stores of the data space: the obligations O30 to O34. A form that updates its pointer is one load
or store and one write of the pointer, in either order: where the address is not the pointer's own (R87), the two commute. -/

namespace Sys2Proof.Machine

/-! ### MOV, MOVW and LDI (R221 to R223) -/

theorem pair_extractLsb'_low (s : State) (i : Reg) : (s.pair i).extractLsb' 0 8 = s.reg i :=
  BitVec.extractLsb'_append_eq_right

theorem pair_extractLsb'_high (s : State) (i : Reg) : (s.pair i).extractLsb' 8 8 = s.reg (i + 1) :=
  BitVec.extractLsb'_append_eq_left

theorem setPair_reg_low (s : State) (d : Reg) (v : Word) : (s.setPair d v).reg d = v.extractLsb' 0 8 := by
  rw [State.setPair_reg, if_neg (reg_succ_ne d).symm, if_pos rfl]

theorem setPair_reg_high (s : State) (d : Reg) (v : Word) : (s.setPair d v).reg (d + 1) = v.extractLsb' 8 8 := by
  rw [State.setPair_reg, if_pos rfl]

theorem setPair_reg_ne (s : State) {d j : Reg} (v : Word) (hlo : j ≠ d) (hhi : j ≠ d + 1) :
    (s.setPair d v).reg j = s.reg j := by
  rw [State.setPair_reg, if_neg hhi, if_neg hlo]

/-- Settles O30: each writes a register or a pair and moves the program counter. -/
theorem registerMoves : Obligations.register_moves := fun s d r K =>
  ⟨⟨_, rfl, State.setReg_reg_same s d _, rfl, onlyChanged_setReg s d _ 1⟩,
    ⟨_, rfl, (setPair_reg_low s d _).trans (pair_extractLsb'_low s r),
      (setPair_reg_high s d _).trans (pair_extractLsb'_high s r), rfl,
      onlyChanged_setPair_setSreg s d _ s.sreg 1 [] fun _ _ => rfl⟩,
    ⟨_, rfl, State.setReg_reg_same s d K, rfl, onlyChanged_setReg s d K 1⟩⟩

/-! ### Loads that leave their pointer (R224, R225, R230, R233, R234, R237) -/

theorem loadByte_spec (s : State) (d : Reg) (a n : Nat) : LoadSpec s d a n (loadByte s d a n) := by
  rw [LoadSpec, loadByte, memRead]
  cases locate s.cfg a with
  | reg i => exact ⟨_, rfl, State.setReg_reg_same s d _, rfl, onlyChanged_setReg s d _ n⟩
  | sram => exact ⟨_, rfl, State.setReg_reg_same s d _, rfl, onlyChanged_setReg s d _ n⟩
  | io A =>
    exact ⟨_, rfl, State.setReg_reg_same _ d _, ioRead_pcPlus s A n, onlyChanged_setReg (ioRead s A).2 d _ n⟩
  | unmapped => rfl

/-- Settles O31: the forms differ in their address and in the length of their instruction. -/
theorem plainLoads : Obligations.plain_loads := fun s d _ _ =>
  ⟨loadByte_spec s d _ 2, loadByte_spec s d _ 1, loadByte_spec s d _ 1, loadByte_spec s d _ 1, loadByte_spec s d _ 1,
    loadByte_spec s d _ 1⟩

/-! ### Stores that leave their pointer (R238, R239, R242, R245, R246, R249) -/

theorem ioWrite_pcPlus (s : State) (A : BitVec 6) (v : Byte) (n : Nat) : (ioWrite s A v).pcPlus n = s.pcPlus n := by
  obtain ⟨hcfg, hpc, -⟩ := ioWrite_frame s A v
  rw [State.pcPlus, hcfg, hpc, State.pcPlus]

theorem ioWrite_advance (s : State) (A : BitVec 6) (v : Byte) (n : Nat) :
    (ioWrite s A v).advance n = (ioWrite s A v).setPc (s.pcPlus n) := by
  rw [State.advance, ioWrite_pcPlus]

/-- Every byte but the SRAM byte written reads as before. -/
theorem sameMemoryBut_writeSram (s : State) (a : Nat) (v : Byte) :
    SameMemoryBut [a] s { s with sram := Memory.write .sram s.sram a v } :=
  ⟨fun _ hb => Memory.read_write_ne _ _ v (by simpa using hb), fun _ => rfl, fun _ => rfl, fun _ => rfl⟩

theorem onlyStored_writeSram (s : State) (a : Nat) (v : Byte) (p : PcWord) :
    OnlyStored [] [a] s { s with sram := Memory.write .sram s.sram a v, pc := p } :=
  ⟨fun _ _ => rfl, rfl, rfl, SameSpecial.refl s, sameMemoryBut_writeSram s a v, SameHidden.refl s, rfl⟩

theorem storeByte_spec (s : State) (a : Nat) (v : Byte) (n : Nat) : StoreSpec s a v n (storeByte s a v n) := by
  rw [StoreSpec, storeByte, memWrite]
  cases locate s.cfg a with
  | reg i => exact ⟨_, rfl, State.setReg_reg_same s i v, rfl, onlyChanged_setReg s i v n⟩
  | sram => exact ⟨_, rfl, Memory.read_write_same _ _ a v, rfl, onlyStored_writeSram s a v _⟩
  | io A => exact congrArg Host.Outcome.next (ioWrite_advance s A v n)
  | unmapped => rfl

/-- Settles O33: the forms differ in their address and in the length of their instruction. -/
theorem plainStores : Obligations.plain_stores := fun s r _ _ =>
  ⟨storeByte_spec s _ (s.reg r) 2, storeByte_spec s _ (s.reg r) 1, storeByte_spec s _ (s.reg r) 1,
    storeByte_spec s _ (s.reg r) 1, storeByte_spec s _ (s.reg r) 1, storeByte_spec s _ (s.reg r) 1⟩

/-! ### The pointers (R74, R75) -/

/-- A value of a RAMP register is the byte modulo 2^RAMPBITS (R33). -/
theorem rampMask_toNat (cfg : Config) (v : Byte) : (rampMask cfg v).toNat = v.toNat % 2 ^ cfg.rampBits := by
  rw [rampMask, BitVec.toNat_ofNat]
  exact Nat.mod_eq_of_lt ((Nat.mod_le _ _).trans_lt v.isLt)

/-- A value of 16 + RAMPBITS bits is what a RAMP register and a register pair hold of it. -/
theorem rampMask_pair_toNat {cfg : Config} {v : Nat} (hbits : cfg.rampBits ≤ 8) (hv : v < 2 ^ (16 + cfg.rampBits)) :
    2 ^ 16 * (rampMask cfg (BitVec.ofNat 8 (v / 2 ^ 16))).toNat + (BitVec.ofNat 16 v).toNat = v := by
  have hpow : 2 ^ cfg.rampBits ≤ 2 ^ 8 := Nat.pow_le_pow_right (by decide) hbits
  have hhigh : v / 2 ^ 16 < 2 ^ cfg.rampBits := Nat.div_lt_of_lt_mul (by rwa [← Nat.pow_add])
  have hramp : (rampMask cfg (BitVec.ofNat 8 (v / 2 ^ 16))).toNat = v / 2 ^ 16 := by
    rw [rampMask_toNat, BitVec.toNat_ofNat, Nat.mod_eq_of_lt (hhigh.trans_le hpow), Nat.mod_eq_of_lt hhigh]
  rw [hramp, BitVec.toNat_ofNat, Nat.div_add_mod]

section Pointers

variable {s t u : State} {p : Ptr} {i j : Reg} {a v : Nat} {b : Byte}

theorem setRamp_ramp (s : State) (p : Ptr) (b : Byte) : p.ramp (p.setRamp s b) = rampMask s.cfg b := by cases p <;> rfl

theorem setRamp_cfg (s : State) (p : Ptr) (b : Byte) : (p.setRamp s b).cfg = s.cfg := by cases p <;> rfl

theorem setRamp_pair (s : State) (p : Ptr) (b : Byte) (i : Reg) : (p.setRamp s b).pair i = s.pair i := by cases p <;> rfl

theorem setRamp_reg (s : State) (p : Ptr) (b : Byte) (i : Reg) : (p.setRamp s b).reg i = s.reg i := by cases p <;> rfl

theorem setRamp_setReg (s : State) (p : Ptr) (b c : Byte) (i : Reg) :
    p.setRamp (s.setReg i c) b = (p.setRamp s b).setReg i c := by
  cases p <;> rfl

theorem setReg_comm (s : State) (b c : Byte) (h : i ≠ j) : (s.setReg i b).setReg j c = (s.setReg j c).setReg i b :=
  congrArg (fun r => { s with regs := r }) (Vector.set_comm b c fun e => h (BitVec.eq_of_toNat_eq e))

theorem ptrSet_cfg (s : State) (p : Ptr) (v : Nat) : (ptrSet s p v).cfg = s.cfg := (Keeps.ptrSet s p v).cfg

/-- A pointer within PTRMOD reads back (R74, R75). -/
theorem ptrGet_ptrSet (hbits : s.cfg.rampBits ≤ 8) (hv : v < ptrMod s.cfg) : ptrGet (ptrSet s p v) p = v := by
  rw [ptrGet, ptrSet_cfg]
  unfold ptrMod at hv
  unfold ptrSet
  cases hclass : s.cfg.dataClass <;> rw [hclass] at hv <;> dsimp only at hv ⊢
  case le256 => rw [State.setReg_reg_same, BitVec.toNat_ofNat, Nat.mod_eq_of_lt hv]
  case le64K => rw [State.setPair_pair, BitVec.toNat_ofNat, Nat.mod_eq_of_lt hv]
  case gt64K => rw [toNat_append_eq, setRamp_ramp, setRamp_pair, State.setPair_pair, State.setPair_cfg,
    rampMask_pair_toNat hbits hv]

theorem mem_ptrRegs (h : i ∈ ptrRegs s.cfg p) : i = p.lo ∨ i = p.lo + 1 := by
  unfold ptrRegs at h
  split at h <;> simp_all

theorem ptrSet_reg_ne (v : Nat) (hi : i ∉ ptrRegs s.cfg p) : (ptrSet s p v).reg i = s.reg i := by
  unfold ptrRegs at hi
  unfold ptrSet
  cases hclass : s.cfg.dataClass <;> rw [hclass] at hi <;> simp only [List.mem_cons, List.not_mem_nil, or_false, not_or] at hi
  case le256 => exact State.setReg_reg_ne _ _ hi
  case le64K => exact setPair_reg_ne _ _ hi.1 hi.2
  case gt64K => exact (setRamp_reg _ _ _ _).trans (setPair_reg_ne _ _ hi.1 hi.2)

theorem ptrSet_reg_other (v : Nat) (hlo : i ≠ p.lo) (hhi : i ≠ p.lo + 1) : (ptrSet s p v).reg i = s.reg i :=
  ptrSet_reg_ne v fun h => (mem_ptrRegs h).elim hlo hhi

/-- `t` is `s` but for the fields a write of a pointer writes. -/
def AgreesOffPointer (s t : State) : Prop :=
  t = { s with regs := t.regs, rampx := t.rampx, rampy := t.rampy, rampz := t.rampz }

theorem ptrSet_agreesOffPointer (s : State) (p : Ptr) (v : Nat) : AgreesOffPointer s (ptrSet s p v) := by
  rcases ptrSet_cases s p v with ⟨-, e⟩ | ⟨-, e⟩ | ⟨-, e⟩ <;> rw [e]
  case inr.inr => cases p <;> rfl
  all_goals rfl

theorem ptrSet_sameSpecialButRamp (s : State) (p : Ptr) (v : Nat) : SameSpecialButRamp p s (ptrSet s p v) := by
  rcases ptrSet_cases s p v with ⟨-, e⟩ | ⟨-, e⟩ | ⟨hclass, e⟩ <;> rw [e]
  case inr.inr =>
    cases p
    case X => exact ⟨.inl ⟨rfl, hclass⟩, .inr rfl, .inr rfl, rfl, rfl, rfl, rfl, rfl⟩
    case Y => exact ⟨.inr rfl, .inl ⟨rfl, hclass⟩, .inr rfl, rfl, rfl, rfl, rfl, rfl⟩
    case Z => exact ⟨.inr rfl, .inr rfl, .inl ⟨rfl, hclass⟩, rfl, rfl, rfl, rfl, rfl⟩
  all_goals exact ⟨.inr rfl, .inr rfl, .inr rfl, rfl, rfl, rfl, rfl, rfl⟩

/-- A write of the pointer at the end of an instruction of one word changes the pointer and the program counter. -/
structure PtrUpdated (p : Ptr) (s t : State) : Prop where
  pc : t.pc = s.pcPlus 1
  regs : SameRegsBut (ptrRegs s.cfg p) s t
  sreg : t.sreg = s.sreg
  sp : t.sp = s.sp
  special : SameSpecialButRamp p s t
  memory : SameMemory s t
  hidden : SameHidden s t
  freeCount : t.freeCount = s.freeCount

theorem ptrSet_ptrUpdated (s : State) (p : Ptr) (v : Nat) : PtrUpdated p s ((ptrSet s p v).advance 1) := by
  have hspecial : SameSpecialButRamp p s ((ptrSet s p v).advance 1) := ptrSet_sameSpecialButRamp s p v
  have hregs : SameRegsBut (ptrRegs s.cfg p) s ((ptrSet s p v).advance 1) := fun _ hi => ptrSet_reg_ne v hi
  have hagrees := ptrSet_agreesOffPointer s p v
  rw [AgreesOffPointer] at hagrees
  rw [hagrees] at hspecial hregs ⊢
  exact ⟨rfl, hregs, rfl, rfl, hspecial, SameMemory.refl s, SameHidden.refl s, rfl⟩

/-! ### An access and a write of the pointer, in either order (R87) -/

/-- What commutes with the writes of which a write of the pointer consists commutes with it. -/
theorem ptrSet_comm (f : State → State) (hcfg : (f s).cfg = s.cfg)
    (hreg : ∀ u i c, i = p.lo ∨ i = p.lo + 1 → f (u.setReg i c) = (f u).setReg i c)
    (hramp : s.cfg.dataClass = .gt64K → ∀ u c, u.cfg = s.cfg → f (p.setRamp u c) = p.setRamp (f u) c) (v : Nat) :
    f (ptrSet s p v) = ptrSet (f s) p v := by
  have hpair (w : Word) : f (s.setPair p.lo w) = (f s).setPair p.lo w := by
    rw [State.setPair, hreg _ _ _ (.inr rfl), hreg _ _ _ (.inl rfl), State.setPair]
  unfold ptrSet
  rw [hcfg]
  cases hclass : s.cfg.dataClass
  case le256 => exact hreg _ _ _ (.inl rfl)
  case le64K => exact hpair _
  case gt64K => exact (hramp hclass _ _ (State.setPair_cfg _ _ _)).trans (congrArg (p.setRamp · _) (hpair _))

theorem setReg_ptrSet (hlo : i ≠ p.lo) (hhi : i ≠ p.lo + 1) (b : Byte) (v : Nat) :
    (ptrSet s p v).setReg i b = ptrSet (s.setReg i b) p v := by
  refine ptrSet_comm (State.setReg · i b) rfl (fun u j c hj => ?_) (fun _ u c _ => (setRamp_setReg u p c b i).symm) v
  exact setReg_comm u c b fun e => hj.elim (fun h => hlo (e.symm.trans h)) fun h => hhi (e.symm.trans h)

theorem ioRead_setReg (s : State) (A : BitVec 6) (i : Reg) (b : Byte) :
    ioRead (s.setReg i b) A = ((ioRead s A).1, (ioRead s A).2.setReg i b) := by
  unfold ioRead
  rw [State.setReg_cfg]
  cases ioOwner s.cfg A <;> rfl

theorem ioRead_setPair (s : State) (A : BitVec 6) (i : Reg) (w : Word) :
    ioRead (s.setPair i w) A = ((ioRead s A).1, (ioRead s A).2.setPair i w) := by
  simp only [State.setPair, ioRead_setReg]

theorem ioRead_setRamp {A : BitVec 6} (hA : ioOwner s.cfg A ≠ p.rampIo) (b : Byte) :
    ioRead (p.setRamp s b) A = ((ioRead s A).1, p.setRamp (ioRead s A).2 b) := by
  unfold ioRead
  rw [setRamp_cfg]
  cases p
  case X => cases hO : ioOwner s.cfg A with | rampx => exact absurd hO hA | _ => rfl
  case Y => cases hO : ioOwner s.cfg A with | rampy => exact absurd hO hA | _ => rfl
  case Z => cases hO : ioOwner s.cfg A with | rampz => exact absurd hO hA | _ => rfl

theorem ioWrite_setReg (s : State) (A : BitVec 6) (b : Byte) (i : Reg) (c : Byte) :
    ioWrite (s.setReg i c) A b = (ioWrite s A b).setReg i c := by
  unfold ioWrite
  rw [State.setReg_cfg]
  cases ioOwner s.cfg A <;> rfl

theorem ioWrite_setRamp {A : BitVec 6} (hA : ioOwner s.cfg A ≠ p.rampIo) (b c : Byte) :
    ioWrite (p.setRamp s c) A b = p.setRamp (ioWrite s A b) c := by
  unfold ioWrite
  rw [setRamp_cfg]
  cases p
  case X => cases hO : ioOwner s.cfg A with | rampx => exact absurd hO hA | _ => rfl
  case Y => cases hO : ioOwner s.cfg A with | rampy => exact absurd hO hA | _ => rfl
  case Z => cases hO : ioOwner s.cfg A with | rampz => exact absurd hO hA | _ => rfl

theorem ioRead_ptrSet {A : BitVec 6} (hA : s.cfg.dataClass = .gt64K → ioOwner s.cfg A ≠ p.rampIo) (v : Nat) :
    ioRead (ptrSet s p v) A = ((ioRead s A).1, ptrSet (ioRead s A).2 p v) := by
  unfold ptrSet
  rw [ioRead_cfg]
  cases hclass : s.cfg.dataClass
  case le256 => exact ioRead_setReg s A _ _
  case le64K => exact ioRead_setPair s A _ _
  case gt64K => exact (ioRead_setRamp (s := s.setPair _ _) (hA hclass) _).trans (by rw [ioRead_setPair])

theorem ioWrite_ptrSet {A : BitVec 6} (hA : s.cfg.dataClass = .gt64K → ioOwner s.cfg A ≠ p.rampIo) (b : Byte) (v : Nat) :
    ioWrite (ptrSet s p v) A b = ptrSet (ioWrite s A b) p v := by
  obtain ⟨hcfg, -⟩ := ioWrite_frame s A b
  exact ptrSet_comm (ioWrite · A b) hcfg (fun u i c _ => ioWrite_setReg u A b i c)
    (fun hclass _ c hu => ioWrite_setRamp (hu ▸ hA hclass) b c) v

theorem writeSram_ptrSet (s : State) (p : Ptr) (a : Nat) (b : Byte) (v : Nat) :
    { ptrSet s p v with sram := Memory.write .sram (ptrSet s p v).sram a b } =
      ptrSet { s with sram := Memory.write .sram s.sram a b } p v :=
  ptrSet_comm (fun u => { u with sram := Memory.write .sram u.sram a b }) rfl (fun _ _ _ _ => rfl)
    (fun _ _ _ _ => by cases p <;> rfl) v

/-- Past the guard the register at the address is not the pointer's. -/
theorem ptrClash_reg (h : ptrClash s.cfg p a = false) (hloc : locate s.cfg a = .reg i) : i ≠ p.lo ∧ i ≠ p.lo + 1 := by
  simpa [ptrClash, hloc] using h

/-- Past the guard the I/O location at the address is not the pointer's RAMP register, where writes of the pointer use it. -/
theorem ptrClash_io {A : BitVec 6} (h : ptrClash s.cfg p a = false) (hloc : locate s.cfg a = .io A) :
    s.cfg.dataClass = .gt64K → ioOwner s.cfg A ≠ p.rampIo := fun hclass hA => by
  simp [ptrClash, hloc, hclass, hA] at h

theorem memRead_ptrSet (h : ptrClash s.cfg p a = false) (v : Nat) :
    memRead (ptrSet s p v) a = andThen (memRead s a) fun r => .next (r.1, ptrSet r.2 p v) := by
  rw [memRead, ptrSet_cfg, memRead]
  cases hloc : locate s.cfg a with
  | reg i =>
    obtain ⟨hlo, hhi⟩ := ptrClash_reg h hloc
    exact congrArg (fun b => Host.Outcome.next (b, ptrSet s p v)) (ptrSet_reg_other v hlo hhi)
  | io A => exact congrArg Host.Outcome.next (ioRead_ptrSet (ptrClash_io h hloc) v)
  | sram =>
    have hagrees := congrArg State.sram (ptrSet_agreesOffPointer s p v)
    exact congrArg (fun m => Host.Outcome.next (Memory.read .sram m a, ptrSet s p v)) hagrees
  | unmapped => rfl

theorem memWrite_ptrSet (h : ptrClash s.cfg p a = false) (b : Byte) (v : Nat) :
    memWrite (ptrSet s p v) a b = andThen (memWrite s a b) fun u => .next (ptrSet u p v) := by
  have hlocate : locate (ptrSet s p v).cfg a = locate s.cfg a := congrArg (locate · a) (ptrSet_cfg s p v)
  rw [memWrite, hlocate, memWrite]
  cases hloc : locate s.cfg a with
  | reg i =>
    obtain ⟨hlo, hhi⟩ := ptrClash_reg h hloc
    exact congrArg Host.Outcome.next (setReg_ptrSet hlo hhi b v)
  | io A => exact congrArg Host.Outcome.next (ioWrite_ptrSet (ptrClash_io h hloc) b v)
  | sram => exact congrArg Host.Outcome.next (writeSram_ptrSet s p a b v)
  | unmapped => rfl

/-! ### Loads that update their pointer (R226, R227, R231, R232, R235, R236) -/

theorem ptrMod_pos (cfg : Config) : 0 < ptrMod cfg := by
  unfold ptrMod
  cases cfg.dataClass <;> exact Nat.two_pow_pos _

theorem isPtrReg_eq_false {d : Reg} (hlo : d ≠ p.lo) (hhi : d ≠ p.lo + 1) : isPtrReg p d = false := by
  rw [isPtrReg, beq_false_of_ne hlo, beq_false_of_ne hhi, Bool.or_false]

theorem guarded_ok {d : Reg} {x : Instr} {go : Result State} (hlo : d ≠ p.lo) (hhi : d ≠ p.lo + 1)
    (h : ptrClash s.cfg p a = false) : guarded s p d x a go = go := by
  rw [guarded, isPtrReg_eq_false hlo hhi, h]
  rfl

/-- Load `d` from address `a` and leave the pointer at `v`, past the checks. -/
def loadAndPoint (s : State) (p : Ptr) (d : Reg) (a v : Nat) : Result State :=
  andThen (memRead s a) fun r => .next ((ptrSet (r.2.setReg d r.1) p v).advance 1)

theorem loadInc_eq {d : Reg} {x : Instr} (hlo : d ≠ p.lo) (hhi : d ≠ p.lo + 1) (h : ptrClash s.cfg p (ptrGet s p) = false) :
    loadInc s p d x = loadAndPoint s p d (ptrGet s p) (ptrSucc s.cfg (ptrGet s p)) :=
  guarded_ok hlo hhi h

theorem loadDec_eq {d : Reg} {x : Instr} (hlo : d ≠ p.lo) (hhi : d ≠ p.lo + 1) (h : ptrClash s.cfg p (eaDec s p) = false) :
    loadDec s p d x = loadAndPoint s p d (eaDec s p) (eaDec s p) := by
  rw [loadDec, guarded_ok hlo hhi h, loadByte, memRead_ptrSet h, andThen_assoc, loadAndPoint]
  simp only [andThen_next, setReg_ptrSet hlo hhi]

/-- A data read answers, or there is no byte at the address (R63). -/
theorem memRead_next_or_fault (s : State) (a : Nat) :
    (∃ b u, memRead s a = .next (b, u)) ∨ memRead s a = .fault (.unmappedData a) := by
  rw [memRead]
  cases locate s.cfg a with
  | unmapped => exact .inr rfl
  | _ => exact .inl ⟨_, _, rfl⟩

theorem sameRegsBut_cons {regs : List Reg} (h : SameRegsBut regs (s.setReg i b) t) : SameRegsBut (i :: regs) s t :=
  fun _ hj => (h _ (List.not_mem_of_not_mem_cons hj)).trans (State.setReg_reg_ne s b (List.ne_of_not_mem_cons hj))

theorem loadAndPoint_spec {d : Reg} (hlo : d ≠ p.lo) (hhi : d ≠ p.lo + 1) (hbits : s.cfg.rampBits ≤ 8)
    (hv : v < ptrMod s.cfg) : PtrLoadSpec s p d a v (loadAndPoint s p d a v) := by
  rw [PtrLoadSpec, loadAndPoint]
  rcases memRead_next_or_fault s a with ⟨b, u, hread⟩ | hread <;> rw [hread]
  case inr => rfl
  obtain ⟨pc, regs, sreg, sp, special, memory, hidden, freeCount⟩ := ptrSet_ptrUpdated (u.setReg d b) p v
  have hd : (ptrSet (u.setReg d b) p v).reg d = b :=
    (ptrSet_reg_other v hlo hhi).trans (State.setReg_reg_same u d b)
  obtain ⟨-, rfl | ⟨q, rfl⟩⟩ := memRead_next hread <;>
    exact ⟨_, rfl, hd, ptrGet_ptrSet hbits hv, pc, sameRegsBut_cons regs, sreg, sp, special, memory, hidden, freeCount⟩

theorem loadInc_spec {d : Reg} {x : Instr} (hlo : d ≠ p.lo) (hhi : d ≠ p.lo + 1) (hbits : s.cfg.rampBits ≤ 8)
    (h : ptrClash s.cfg p (ptrGet s p) = false) :
    PtrLoadSpec s p d (ptrGet s p) ((ptrGet s p + 1) % ptrMod s.cfg) (loadInc s p d x) := by
  rw [loadInc_eq hlo hhi h]
  exact loadAndPoint_spec hlo hhi hbits (Nat.mod_lt _ (ptrMod_pos _))

theorem loadDec_spec {d : Reg} {x : Instr} (hlo : d ≠ p.lo) (hhi : d ≠ p.lo + 1) (hbits : s.cfg.rampBits ≤ 8)
    (h : ptrClash s.cfg p (eaDec s p) = false) : PtrLoadSpec s p d (eaDec s p) (eaDec s p) (loadDec s p d x) := by
  rw [loadDec_eq hlo hhi h]
  exact loadAndPoint_spec hlo hhi hbits (Nat.mod_lt _ (ptrMod_pos _))

/-! ### Stores that update their pointer (R240, R241, R243, R244, R247, R248) -/

/-- Store `b` at address `a` and leave the pointer at `v`, past the checks. -/
def storeAndPoint (s : State) (p : Ptr) (b : Byte) (a v : Nat) : Result State :=
  andThen (memWrite s a b) fun u => .next ((ptrSet u p v).advance 1)

theorem storeInc_eq {r : Reg} {x : Instr} (hlo : r ≠ p.lo) (hhi : r ≠ p.lo + 1) (h : ptrClash s.cfg p (ptrGet s p) = false) :
    storeInc s p r x = storeAndPoint s p (s.reg r) (ptrGet s p) (ptrSucc s.cfg (ptrGet s p)) :=
  guarded_ok hlo hhi h

theorem storeDec_eq {r : Reg} {x : Instr} (hlo : r ≠ p.lo) (hhi : r ≠ p.lo + 1) (h : ptrClash s.cfg p (eaDec s p) = false) :
    storeDec s p r x = storeAndPoint s p (s.reg r) (eaDec s p) (eaDec s p) := by
  rw [storeDec, guarded_ok hlo hhi h, storeByte, memWrite_ptrSet h, andThen_assoc]
  rfl

theorem storeAndPoint_spec (hclash : ptrClash s.cfg p a = false) (hbits : s.cfg.rampBits ≤ 8) (hv : v < ptrMod s.cfg) :
    PtrStoreSpec s p b a v (storeAndPoint s p b a v) := by
  rw [PtrStoreSpec, storeAndPoint, memWrite]
  cases hloc : locate s.cfg a with
  | reg i =>
    obtain ⟨hlo, hhi⟩ := ptrClash_reg hclash hloc
    have hi : (ptrSet (s.setReg i b) p v).reg i = b :=
      (ptrSet_reg_other v hlo hhi).trans (State.setReg_reg_same s i b)
    obtain ⟨pc, regs, sreg, sp, special, memory, hidden, freeCount⟩ := ptrSet_ptrUpdated (s.setReg i b) p v
    exact ⟨_, rfl, hi, ptrGet_ptrSet hbits hv, pc, sameRegsBut_cons regs, sreg, sp, special, memory, hidden, freeCount⟩
  | sram =>
    obtain ⟨pc, regs, sreg, sp, special, ⟨sram, io, prog, buffer⟩, hidden, freeCount⟩ :=
      ptrSet_ptrUpdated { s with sram := Memory.write .sram s.sram a b } p v
    obtain ⟨sramBut, -⟩ := sameMemoryBut_writeSram s a b
    exact ⟨_, rfl, (sram a).trans (Memory.read_write_same _ _ a b), ptrGet_ptrSet hbits hv, pc, regs, sreg, sp, special,
      ⟨fun c hc => (sram c).trans (sramBut c hc), io, prog, buffer⟩, hidden, freeCount⟩
  | io A =>
    obtain ⟨hcfg, -⟩ := ioWrite_frame s A b
    have hpc := (ptrSet_ptrUpdated (ioWrite s A b) p v).pc.trans (ioWrite_pcPlus s A b 1)
    refine ⟨_, rfl, congrArg (State.setPc _) hpc, ?_⟩
    exact ptrGet_ptrSet (s := ioWrite s A b) (hcfg ▸ hbits) (hcfg ▸ hv)
  | unmapped => rfl

theorem storeInc_spec {r : Reg} {x : Instr} (hlo : r ≠ p.lo) (hhi : r ≠ p.lo + 1) (hbits : s.cfg.rampBits ≤ 8)
    (h : ptrClash s.cfg p (ptrGet s p) = false) :
    PtrStoreSpec s p (s.reg r) (ptrGet s p) ((ptrGet s p + 1) % ptrMod s.cfg) (storeInc s p r x) := by
  rw [storeInc_eq hlo hhi h]
  exact storeAndPoint_spec h hbits (Nat.mod_lt _ (ptrMod_pos _))

theorem storeDec_spec {r : Reg} {x : Instr} (hlo : r ≠ p.lo) (hhi : r ≠ p.lo + 1) (hbits : s.cfg.rampBits ≤ 8)
    (h : ptrClash s.cfg p (eaDec s p) = false) : PtrStoreSpec s p (s.reg r) (eaDec s p) (eaDec s p) (storeDec s p r x) := by
  rw [storeDec_eq hlo hhi h]
  exact storeAndPoint_spec h hbits (Nat.mod_lt _ (ptrMod_pos _))

end Pointers

/-- Settles O32: each is one load and one write of its pointer. -/
theorem updatingLoads : Obligations.updating_loads := by
  intro s d hbits x hx hlo hhi
  simp only [List.mem_cons, List.not_mem_nil, or_false] at hx
  rcases hx with rfl | rfl | rfl <;> exact ⟨loadInc_spec hlo hhi hbits, loadDec_spec hlo hhi hbits⟩

/-- Settles O34: each is one store and one write of its pointer. -/
theorem updatingStores : Obligations.updating_stores := by
  intro s r hbits x hx hlo hhi
  simp only [List.mem_cons, List.not_mem_nil, or_false] at hx
  rcases hx with rfl | rfl | rfl <;> exact ⟨storeInc_spec hlo hhi hbits, storeDec_spec hlo hhi hbits⟩

end Sys2Proof.Machine

/-! The I/O space and the stack: the obligations O39 to O41. What a read and a write of an I/O location do is said once per field of
the state, by the location's owner (R65). -/

namespace Sys2Proof.Machine

/-! ### IN (R256) -/

/-- A read at one of the device's own locations changes the device's part and counts as an access; no other read changes
anything (R65). -/
theorem ioRead_eq (s : State) (A : BitVec 6) : (ioRead s A).2 =
    if ioOwner s.cfg A = .device then s.setDevicePart (Config.deviceRead s.freeCount A s.devicePart).2 else s := by
  rcases ioRead_state s A with ⟨hA, e⟩ | ⟨hA, e⟩ <;> rw [e]
  · exact (if_neg hA).symm
  · exact (if_pos hA).symm

theorem extractLsb'_low_toNat (v : Word) : (v.extractLsb' 0 8).toNat = v.toNat % 256 := by
  rw [BitVec.extractLsb'_toNat, Nat.shiftRight_zero]

theorem extractLsb'_high_toNat (v : Word) : (v.extractLsb' 8 8).toNat = v.toNat / 256 := by
  have hv := v.isLt
  rw [BitVec.extractLsb'_toNat, Nat.shiftRight_eq_div_pow]
  omega

/-- Settles O39: the register holds the byte read, and the frame is that of the read. -/
theorem inResults : Obligations.in_results := by
  intro s d A
  have hd : (((ioRead s A).2.setReg d (ioRead s A).1).advance 1).reg d = (ioRead s A).1 :=
    State.setReg_reg_same _ d _
  refine ⟨_, rfl, ioRead_pcPlus s A 1, ?frame, ioRead_freeCount s A, ?byte⟩
  case frame =>
    rw [← ioRead_eq]
    exact onlyChanged_setReg _ d _ 1
  case byte =>
    rw [hd, ioRead]
    cases ioOwner s.cfg A with
    | spl => exact extractLsb'_low_toNat s.sp
    | sph => exact extractLsb'_high_toNat s.sp
    | _ => rfl

/-! ### OUT (R257) -/

section IoWrite

variable (s : State) (A : BitVec 6) (v : Byte)

theorem ioWrite_reg (i : Reg) : (ioWrite s A v).reg i = s.reg i := by
  obtain ⟨-, -, hregs, -⟩ := ioWrite_frame s A v
  rw [State.reg, hregs, State.reg]

theorem ioWrite_devicePart : (ioWrite s A v).devicePart =
    if ioOwner s.cfg A = .device then Config.deviceWrite s.freeCount A v s.devicePart else s.devicePart := by
  unfold ioWrite
  cases ioOwner s.cfg A <;> rfl

theorem ioWrite_freeCount :
    (ioWrite s A v).freeCount = if ioOwner s.cfg A = .device then s.freeCount + 1 else s.freeCount := by
  unfold ioWrite
  cases ioOwner s.cfg A <;> rfl

theorem ioWrite_blbits : (ioWrite s A v).blbits = s.blbits := by
  unfold ioWrite
  cases ioOwner s.cfg A <;> rfl

theorem ioWrite_io : (ioWrite s A v).io =
    if ioOwner s.cfg A = .storage then Memory.write .io s.io A.toNat v else s.io := by
  unfold ioWrite
  cases ioOwner s.cfg A <;> rfl

theorem ioWrite_sreg : (ioWrite s A v).sreg = if ioOwner s.cfg A = .sreg then v else s.sreg := by
  unfold ioWrite
  cases ioOwner s.cfg A <;> rfl

theorem ioWrite_sp : (ioWrite s A v).sp =
    if ioOwner s.cfg A = .spl then s.sp.extractLsb' 8 8 ++ v
    else if ioOwner s.cfg A = .sph then v ++ s.sp.extractLsb' 0 8 else s.sp := by
  unfold ioWrite
  cases ioOwner s.cfg A <;> rfl

theorem ioWrite_rampx : (ioWrite s A v).rampx = if ioOwner s.cfg A = .rampx then rampMask s.cfg v else s.rampx := by
  unfold ioWrite
  cases ioOwner s.cfg A <;> rfl

theorem ioWrite_rampy : (ioWrite s A v).rampy = if ioOwner s.cfg A = .rampy then rampMask s.cfg v else s.rampy := by
  unfold ioWrite
  cases ioOwner s.cfg A <;> rfl

theorem ioWrite_rampz : (ioWrite s A v).rampz = if ioOwner s.cfg A = .rampz then rampMask s.cfg v else s.rampz := by
  unfold ioWrite
  cases ioOwner s.cfg A <;> rfl

theorem ioWrite_rampd : (ioWrite s A v).rampd = if ioOwner s.cfg A = .rampd then rampMask s.cfg v else s.rampd := by
  unfold ioWrite
  cases ioOwner s.cfg A <;> rfl

theorem ioWrite_eind : (ioWrite s A v).eind = if ioOwner s.cfg A = .eind then v else s.eind := by
  unfold ioWrite
  cases ioOwner s.cfg A <;> rfl

theorem ioWrite_spmcr : (ioWrite s A v).spmcr = if ioOwner s.cfg A = .spmcr then v else s.spmcr := by
  unfold ioWrite
  cases ioOwner s.cfg A <;> rfl

theorem ioWrite_mcucr : (ioWrite s A v).mcucr = if ioOwner s.cfg A = .mcucr then v else s.mcucr := by
  unfold ioWrite
  cases ioOwner s.cfg A <;> rfl

theorem ioWrite_ioByte (B : Nat) : ioByte (ioWrite s A v) B =
    if ioOwner s.cfg A = .storage ∧ B = A.toNat then v else ioByte s B := by
  rw [ioByte, ioWrite_io]
  by_cases hA : ioOwner s.cfg A = .storage
  · simp only [hA, if_true, true_and, Memory.read_write, ioByte]
  · simp only [hA, if_false, false_and, ioByte]

theorem ioWrite_sp_toNat : (ioWrite s A v).sp.toNat =
    if ioOwner s.cfg A = .spl then s.sp.toNat / 256 * 256 + v.toNat
    else if ioOwner s.cfg A = .sph then v.toNat * 256 + s.sp.toNat % 256 else s.sp.toNat := by
  rw [ioWrite_sp, apply_ite BitVec.toNat, apply_ite BitVec.toNat, toNat_append_eq, toNat_append_eq,
    extractLsb'_low_toNat, extractLsb'_high_toNat, Nat.mul_comm (2 ^ 8), Nat.mul_comm (2 ^ 8)]
  rfl

end IoWrite

/-- Settles O40: field by field what a write of the location leaves. -/
theorem outResults : Obligations.out_results := by
  intro s r A
  obtain ⟨hcfg, -, -, hsram, hprog, hbuffer, hsleeping, hholdoff, -⟩ := ioWrite_frame s A (s.reg r)
  have hramp {P : Prop} [Decidable P] {x y : Byte} (h : y = if P then rampMask s.cfg (s.reg r) else x) :
      y.toNat = if P then (s.reg r).toNat % 2 ^ s.cfg.rampBits else x.toNat := by
    rw [h, apply_ite BitVec.toNat, rampMask_toNat]
  exact ⟨_, rfl, ioWrite_pcPlus s A _ 1, fun i _ => ioWrite_reg s A _ i, hcfg, hholdoff, hsleeping,
    ioWrite_devicePart s A _, ioWrite_freeCount s A _, ioWrite_blbits s A _,
    fun a => congrArg (Memory.read .sram · a) hsram, fun b => congrArg (Memory.read .prog · b) hprog,
    fun b => congrArg (Memory.read .pageBuffer · b) hbuffer, ioWrite_ioByte s A _, ioWrite_sreg s A _,
    ioWrite_sp_toNat s A _, hramp (ioWrite_rampx s A _), hramp (ioWrite_rampy s A _), hramp (ioWrite_rampz s A _),
    hramp (ioWrite_rampd s A _), ioWrite_eind s A _, ioWrite_spmcr s A _, ioWrite_mcucr s A _⟩

/-! ### PUSH and POP (R258, R259) -/

section PushPop

variable {s : State}

theorem push8_of_noClash (v : Byte) (h : stackClash s.cfg s.sp.toNat = false) :
    push8 s v = andThen (memWrite s s.sp.toNat v) fun t => .next (t.setSp (wrapSp s.cfg (s.sp - 1))) :=
  if_neg (Bool.eq_false_iff.1 h)

/-- A pop reads the byte that a data read finds at the address, and moves SP. -/
theorem pop8_of_memRead {b : Byte} {u : State} (hok : StackByteOk s (pullAddress s 0))
    (h : memRead s (pullAddress s 0) = .next (b, u)) :
    pop8 s = .next (b, u.setSp (wrapSp s.cfg (s.sp + 1))) := by
  obtain ⟨b', u', hread, hsp⟩ := memRead_setSp hok
  cases h.symm.trans hread
  exact (if_neg (Bool.eq_false_iff.1 hok.2)).trans (hsp _)

theorem execPush_of_noClash (r : Reg) (h : stackClash s.cfg s.sp.toNat = false) :
    exec (.push r) s = andThen (memWrite s s.sp.toNat (s.reg r)) fun t =>
      .next ((t.setSp (wrapSp s.cfg (s.sp - 1))).advance 1) := by
  have hexec : exec (.push r) s = andThen (push8 s (s.reg r)) fun t => .next (t.advance 1) := rfl
  rw [hexec, push8_of_noClash _ h, andThen_assoc]
  rfl

end PushPop

/-- Settles O41: one write at SP and SP one lower, or SP one higher and one read there. -/
theorem pushPopResults : Obligations.push_pop_results := by
  intro s r
  refine ⟨fun hclash => ?push, fun hclash => ?pop⟩
  case push =>
    rw [execPush_of_noClash r hclash, memWrite]
    cases locate s.cfg s.sp.toNat with
    | reg i => exact ⟨_, rfl, State.setReg_reg_same s i _, rfl, rfl, onlyChanged_setReg s i _ 1⟩
    | sram => exact ⟨_, rfl, Memory.read_write_same _ _ _ _, rfl, rfl, onlyStored_writeSram s _ _ _⟩
    | io A => exact congrArg (fun p => Host.Outcome.next (((ioWrite s A _).setSp _).setPc p)) (ioWrite_pcPlus s A _ 1)
    | unmapped => rfl
  case pop =>
    by_cases hmapped : locate s.cfg (pullAddress s 0) = .unmapped
    · rw [memRead, hmapped]
      exact andThen_of_fault (pop8_unmapped hmapped) _
    · obtain ⟨⟨b, u⟩, hread⟩ := memRead_mapped hmapped
      have hpop := pop8_of_memRead ⟨hmapped, hclash⟩ hread
      rw [hread]
      obtain ⟨-, rfl | ⟨q, rfl⟩⟩ := memRead_next hread <;>
        exact ⟨_, andThen_of_next hpop _, State.setReg_reg_same _ r b, rfl, rfl, onlyChanged_setReg _ r b 1⟩

end Sys2Proof.Machine

/-! Loads from program memory and stores to it: the obligations O37, O38, O42 and O43. -/

namespace Sys2Proof.Machine

/-! ### LPM and ELPM (R250 to R255) -/

section ProgramLoads

variable {s : State} {b : Nat}

theorem progByte_of_lt (h : b < 2 * s.cfg.flashWords) : progByte s b = .next (programByte s b) := if_pos (by omega)

theorem progByte_of_le (h : 2 * s.cfg.flashWords ≤ b) : progByte s b = .fault (.progReadOutOfRange b) :=
  if_neg (by omega)

theorem loadProgram_results (d : Reg) (h : b < 2 * s.cfg.flashWords) :
    ∃ t, loadProgram s d b = .next t ∧ t.reg d = programByte s b ∧ t.pc = s.pcPlus 1 ∧ OnlyChanged [d] [] s t :=
  ⟨_, andThen_of_next (progByte_of_lt h) _, State.setReg_reg_same s d _, rfl, onlyChanged_setReg s d _ 1⟩

theorem loadProgram_fault (d : Reg) (h : 2 * s.cfg.flashWords ≤ b) :
    loadProgram s d b = .fault (.progReadOutOfRange b) :=
  andThen_of_fault (progByte_of_le h) _

/-- A register and a pair that are written, the register not of the pair. -/
theorem onlyChanged_setReg_setPair (s : State) (d i : Reg) (v : Byte) (w : Word) (n : Nat) :
    OnlyChanged [d, i, i + 1] [] s (((s.setReg d v).setPair i w).advance n) := by
  obtain ⟨hregs, hframe⟩ := onlyChanged_setPair_setSreg (s.setReg d v) i w s.sreg n [] fun _ _ => rfl
  exact ⟨sameRegsBut_cons hregs, hframe⟩

variable {d : Reg}

theorem execLpmInc_eq (hlo : d ≠ 30) (hhi : d ≠ 31) : exec (.lpmInc d) s = andThen (progByte s (zWord s).toNat) fun v =>
    .next (((s.setReg d v).setPair 30 (zWord s + 1)).advance 1) :=
  if_neg (Bool.eq_false_iff.1 (isPtrReg_eq_false (p := .Z) hlo hhi))

theorem execElpmInc_eq (hlo : d ≠ 30) (hhi : d ≠ 31) : exec (.elpmInc d) s = andThen (progByte s (rampzZ s)) fun v =>
    .next ((Ptr.setRamp .Z ((s.setReg d v).setPair 30 (BitVec.ofNat 16 (rampzZSucc s)))
      (BitVec.ofNat 8 (rampzZSucc s / 2 ^ 16))).advance 1) :=
  if_neg (Bool.eq_false_iff.1 (isPtrReg_eq_false (p := .Z) hlo hhi))

theorem setReg_setPair_reg (v : Byte) (w : Word) (hlo : d ≠ 30) (hhi : d ≠ 31) :
    ((s.setReg d v).setPair 30 w).reg d = v :=
  (setPair_reg_ne _ w hlo hhi).trans (State.setReg_reg_same s d v)

end ProgramLoads

/-- Settles O37: the updating form writes Z as a pair of registers. -/
theorem lpmResults : Obligations.lpm_results := by
  intro s d
  refine ⟨fun h => ⟨loadProgram_results 0 h, loadProgram_results d h, fun hlo hhi => ?inc⟩,
    fun h => ⟨loadProgram_fault 0 h, loadProgram_fault d h, fun hlo hhi => ?incFault⟩⟩
  case inc =>
    have hz : ((((s.setReg d (programByte s (s.pair 30).toNat)).setPair 30 (zWord s + 1)).advance 1).pair 30).toNat =
        ((s.pair 30).toNat + 1) % 65536 := by
      rw [State.advance_pair, State.setPair_pair]
      exact BitVec.toNat_add _ _
    exact ⟨_, (execLpmInc_eq hlo hhi).trans (andThen_of_next (progByte_of_lt h) _), setReg_setPair_reg _ _ hlo hhi, hz,
      rfl, onlyChanged_setReg_setPair s d 30 _ _ 1⟩
  case incFault => exact (execLpmInc_eq hlo hhi).trans (andThen_of_fault (progByte_of_le h) _)

theorem rampzZ_toNat (s : State) : rampzZ s = s.rampz.toNat * 65536 + (s.pair 30).toNat := by
  rw [rampzZ, toNat_append_eq, Nat.mul_comm]
  rfl

/-- Settles O38: the updating form writes Z as a pair of registers, and RAMPZ. -/
theorem elpmResults : Obligations.elpm_results := by
  intro s d b hbits hb
  obtain rfl : b = rampzZ s := hb.trans (rampzZ_toNat s).symm
  refine ⟨fun h => ⟨loadProgram_results 0 h, loadProgram_results d h, fun hlo hhi => ?inc⟩,
    fun h => ⟨loadProgram_fault 0 h, loadProgram_fault d h, fun hlo hhi => ?incFault⟩⟩
  case inc =>
    have hsucc : rampzZSucc s < 2 ^ (16 + s.cfg.rampBits) := Nat.mod_lt _ (Nat.two_pow_pos _)
    have hz := rampMask_pair_toNat hbits hsucc
    rw [Nat.mul_comm] at hz
    refine ⟨_, (execElpmInc_eq hlo hhi).trans (andThen_of_next (progByte_of_lt h) _), setReg_setPair_reg _ _ hlo hhi, ?_,
      rfl, onlyChanged_setReg_setPair s d 30 _ _ 1⟩
    rw [State.advance_pair, setRamp_pair, State.setPair_pair]
    exact hz
  case incFault => exact (execElpmInc_eq hlo hhi).trans (andThen_of_fault (progByte_of_le h) _)

/-! ### Words of a memory by the bytes in them (R68, R69) -/

/-- The byte of a word that lies at a byte address: the low one at even addresses. -/
def byteOfWord (v : Word) (b : Nat) : Byte := if b % 2 = 0 then v.extractLsb' 0 8 else v.extractLsb' 8 8

theorem byteOfWord_pair (s : State) (i : Reg) (b : Nat) :
    byteOfWord (s.pair i) b = s.reg (if b % 2 = 0 then i else i + 1) := by
  rw [byteOfWord, pair_extractLsb'_low, pair_extractLsb'_high, apply_ite s.reg]

theorem byteOfWord_readWord (k : Space) (m : Memory) (w b : Nat) :
    byteOfWord (Memory.readWord k m w) b = Memory.read k m (2 * w + b % 2) := by
  rw [byteOfWord, Memory.readWord, BitVec.extractLsb'_append_eq_right, BitVec.extractLsb'_append_eq_left]
  rcases Nat.mod_two_eq_zero_or_one b with hb | hb <;> rw [hb] <;> rfl

theorem Memory.read_writeWord_eq (k : Space) (m : Memory) (w b : Nat) (v : Word) :
    Memory.read k (Memory.writeWord k m w v) b = if b / 2 = w then byteOfWord v b else Memory.read k m b := by
  rw [Memory.read_writeWord, byteOfWord]
  rcases Nat.mod_two_eq_zero_or_one b with hb | hb
  · rw [if_neg (by omega), if_pos hb]
    exact if_congr (by omega) rfl rfl
  · rw [if_neg (by omega : ¬b % 2 = 0)]
    exact if_congr (by omega) rfl (if_neg (by omega))

/-- A byte after several words are written. -/
theorem Memory.read_writeWords (k : Space) (m : Memory) (base n b : Nat) (f : Nat → Word) :
    Memory.read k (Memory.writeWords k m base n f) b =
      if base ≤ b / 2 ∧ b / 2 < base + n then byteOfWord (f (b / 2 - base)) b else Memory.read k m b := by
  induction n with
  | zero => exact (if_neg (by omega)).symm
  | succ n ih =>
    rw [Memory.writeWords_succ, Memory.read_writeWord_eq, ih]
    by_cases hlast : b / 2 = base + n
    · rw [if_pos hlast, if_pos (by omega), hlast, Nat.add_sub_cancel_left]
    · rw [if_neg hlast]
      exact if_congr (by omega) rfl rfl

/-! ### SPM and ESPM (R262, R263) -/

/-- Program memory after an operation of SPM. -/
def spmProg (dev : SpmDevice) (op : SpmOp) (z : Nat) (s : State) : Memory :=
  match op with
  | .erasePage => Memory.writeWords .prog s.prog (spmPage dev z) dev.pageWords fun _ => 0xFFFF
  | .writeWord => Memory.writeWord .prog s.prog (spmWord dev z) (s.pair 0)
  | .writePage =>
    Memory.writeWords .prog s.prog (spmPage dev z) dev.pageWords (Memory.readWord .pageBuffer s.pageBuffer)
  | _ => s.prog

/-- The page buffer after an operation of SPM. -/
def spmBuffer (dev : SpmDevice) (op : SpmOp) (z : Nat) (s : State) : Memory :=
  match op with
  | .fillBuffer => Memory.writeWord .pageBuffer s.pageBuffer (spmWord dev z % dev.pageWords) (s.pair 0)
  | _ => s.pageBuffer

/-- The lock bits after an operation of SPM. -/
def spmLockBits (op : SpmOp) (s : State) : Word := if op = .setLockBits then s.pair 0 else s.blbits

/-- The page or the word that an operation of SPM or ESPM names is one that the instruction can address. -/
def SpmInReach (dev : SpmDevice) (op : SpmOp) (z reach : Nat) : Prop :=
  (op = .erasePage ∨ op = .writePage → spmPage dev z + dev.pageWords ≤ reach) ∧ (op = .writeWord → spmWord dev z < reach)

section Spm

variable {dev : SpmDevice} {op : SpmOp} {m : Mnemonic} {z : Nat} {s : State}

theorem spmApply_of_inReach (h : SpmInReach dev op z (spmReach s.cfg m)) : spmApply dev op m z s =
    .next { s with prog := spmProg dev op z s, pageBuffer := spmBuffer dev op z s, blbits := spmLockBits op s } := by
  obtain ⟨hpage, hword⟩ := h
  cases op with
  | erasePage => exact if_pos (hpage (.inl rfl))
  | writePage => exact if_pos (hpage (.inr rfl))
  | writeWord => exact if_pos (hword rfl)
  | fillBuffer => rfl
  | setLockBits => rfl

theorem spmApply_outOfReach (h : ¬SpmInReach dev op z (spmReach s.cfg m)) :
    spmApply dev op m z s = .refused (.deviceSpecific m) := by
  cases op with
  | erasePage => exact if_neg fun hc => h ⟨fun _ => hc, nofun⟩
  | writePage => exact if_neg fun hc => h ⟨fun _ => hc, nofun⟩
  | writeWord => exact if_neg fun hc => h ⟨nofun, fun _ => hc⟩
  | fillBuffer => exact absurd ⟨nofun, nofun⟩ h
  | setLockBits => exact absurd ⟨nofun, nofun⟩ h

theorem read_spmProg (b : Nat) : Memory.read .prog (spmProg dev op z s) b =
    if op = .erasePage ∧ spmPage dev z ≤ b / 2 ∧ b / 2 < spmPage dev z + dev.pageWords then 0xFF
    else if op = .writeWord ∧ b / 2 = spmWord dev z then s.reg (if b % 2 = 0 then 0 else 1)
    else if op = .writePage ∧ spmPage dev z ≤ b / 2 ∧ b / 2 < spmPage dev z + dev.pageWords then
      bufferByte s (b - 2 * spmPage dev z)
    else programByte s b := by
  cases op with
  | erasePage =>
    have hff : byteOfWord 0xFFFF b = 0xFF := ite_self _
    simp only [spmProg, Memory.read_writeWords, hff, true_and, false_and, if_false, programByte, reduceCtorEq]
  | writeWord =>
    simp only [spmProg, Memory.read_writeWord_eq, byteOfWord_pair, true_and, false_and, if_false, programByte,
      reduceCtorEq, zero_add]
  | writePage =>
    simp only [spmProg, Memory.read_writeWords, byteOfWord_readWord, true_and, false_and, if_false, reduceCtorEq]
    refine ite_congr rfl (fun hb => congrArg (bufferByte s) ?_) fun _ => rfl
    omega
  | fillBuffer => simp only [spmProg, false_and, if_false, programByte, reduceCtorEq]
  | setLockBits => simp only [spmProg, false_and, if_false, programByte, reduceCtorEq]

theorem read_spmBuffer (b : Nat) : Memory.read .pageBuffer (spmBuffer dev op z s) b =
    if op = .fillBuffer ∧ b / 2 = spmWord dev z % dev.pageWords then s.reg (if b % 2 = 0 then 0 else 1)
    else bufferByte s b := by
  cases op with
  | fillBuffer => simp only [spmBuffer, Memory.read_writeWord_eq, byteOfWord_pair, true_and, bufferByte, zero_add]
  | _ => simp only [spmBuffer, false_and, if_false, bufferByte, reduceCtorEq]

theorem storeProgram_of_lookup (hdev : s.cfg.spm = some dev) (hop : dev.commands.lookup s.spmcr = some op) :
    storeProgram m z s = andThen (spmApply dev op m z s) fun t => .next (t.advance 1) := by
  simp only [storeProgram, hdev, hop]

theorem storeProgram_without (h : ∀ dev, s.cfg.spm = some dev → dev.commands.lookup s.spmcr = none) :
    storeProgram m z s = .refused (.deviceSpecific m) := by
  unfold storeProgram
  cases hdev : s.cfg.spm with
  | none => rfl
  | some dev => simp only [h dev hdev]

theorem storeProgram_outOfReach (hdev : s.cfg.spm = some dev) (hop : dev.commands.lookup s.spmcr = some op)
    (h : (op = .erasePage ∨ op = .writePage) ∧ spmReach s.cfg m < spmPage dev z + dev.pageWords ∨
      op = .writeWord ∧ spmReach s.cfg m ≤ spmWord dev z) :
    storeProgram m z s = .refused (.deviceSpecific m) := by
  refine (storeProgram_of_lookup hdev hop).trans (andThen_of_refused (spmApply_outOfReach fun ⟨hpage, hword⟩ => ?_) _)
  rcases h with ⟨hop, hlt⟩ | ⟨hop, hle⟩
  · exact Nat.not_lt.2 (hpage hop) hlt
  · exact Nat.not_lt.2 hle (hword hop)

/-- What SPM and ESPM answer for an operation that they can do. -/
theorem storeProgram_inReach (hdev : s.cfg.spm = some dev) (hop : dev.commands.lookup s.spmcr = some op)
    (h : SpmInReach dev op z (spmReach s.cfg m)) : storeProgram m z s = .next ({ s with
      prog := spmProg dev op z s, pageBuffer := spmBuffer dev op z s, blbits := spmLockBits op s }.advance 1) :=
  (storeProgram_of_lookup hdev hop).trans (andThen_of_next (spmApply_of_inReach h) _)

theorem exec_espm (s : State) :
    exec .espm s = storeProgram .ESPM (s.rampz.toNat * 65536 + (s.pair 30).toNat) s :=
  congrArg (storeProgram .ESPM · s) (rampzZ_toNat s)

end Spm

/-- Settles O42: no operation is selected, or what it names is out of reach. -/
theorem spmWithoutDevice : Obligations.spm_without_device := by
  refine ⟨fun s h => ⟨storeProgram_without h, storeProgram_without h⟩, ?_⟩
  intro s dev op hdev hop x hx w base hw hbase hout
  simp only [List.mem_cons, List.not_mem_nil, or_false] at hx
  subst hw hbase
  rcases hx with rfl | rfl
  · exact storeProgram_outOfReach hdev hop hout
  · exact (exec_espm s).trans (storeProgram_outOfReach hdev hop hout)

/-- Settles O43: the operation writes program memory, the page buffer and the lock bits, and nothing else. -/
theorem spmWithDevice : Obligations.spm_with_device := by
  intro s dev op hdev hop x hx w base hw hbase hpage hword
  simp only [List.mem_cons, List.not_mem_nil, or_false] at hx
  subst hw hbase
  have hexec : exec x.1 s = .next ({ s with
      prog := spmProg dev op x.2.1 s, pageBuffer := spmBuffer dev op x.2.1 s, blbits := spmLockBits op s }.advance 1) := by
    rcases hx with rfl | rfl
    · exact storeProgram_inReach hdev hop ⟨hpage, hword⟩
    · exact (exec_espm s).trans (storeProgram_inReach hdev hop ⟨hpage, hword⟩)
  exact ⟨_, hexec, rfl, fun _ _ => rfl, rfl, rfl, SameSpecial.refl s, SameHidden.refl s, rfl, fun _ => rfl, fun _ => rfl,
    rfl, read_spmProg, read_spmBuffer⟩

end Sys2Proof.Machine

/-! The 28 undefined operand combinations, the obligation O35: they are the instructions that load or store a register of the pointer
they update (R229). -/

namespace Sys2Proof.Machine

/-! ### The instructions -/

/-- The words of the table of R229. -/
def undefinedWords : List Word :=
  [0x91AD#16, 0x91BD#16, 0x91AE#16, 0x91BE#16, 0x91C9#16, 0x91D9#16, 0x91CA#16, 0x91DA#16,
   0x91E1#16, 0x91F1#16, 0x91E2#16, 0x91F2#16, 0x93AD#16, 0x93BD#16, 0x93AE#16, 0x93BE#16,
   0x93C9#16, 0x93D9#16, 0x93CA#16, 0x93DA#16, 0x93E1#16, 0x93F1#16, 0x93E2#16, 0x93F2#16,
   0x91E5#16, 0x91F5#16, 0x91E7#16, 0x91F7#16]

/-- The instructions of the table, in the same order. -/
def undefinedInstrs : List Instr :=
  [.ldXInc 26, .ldXInc 27, .ldXDec 26, .ldXDec 27, .ldYInc 28, .ldYInc 29, .ldYDec 28, .ldYDec 29,
   .ldZInc 30, .ldZInc 31, .ldZDec 30, .ldZDec 31, .stXInc 26, .stXInc 27, .stXDec 26, .stXDec 27,
   .stYInc 28, .stYInc 29, .stYDec 28, .stYDec 29, .stZInc 30, .stZInc 31, .stZDec 30, .stZDec 31,
   .lpmInc 30, .lpmInc 31, .elpmInc 30, .elpmInc 31]

/-- The data register is one of the pointer that the instruction updates. -/
def dataInPointer : Instr → Bool
  | .ldXInc d | .ldXDec d | .stXInc d | .stXDec d => isPtrReg .X d
  | .ldYInc d | .ldYDec d | .stYInc d | .stYDec d => isPtrReg .Y d
  | .ldZInc d | .ldZDec d | .stZInc d | .stZDec d | .lpmInc d | .elpmInc d => isPtrReg .Z d
  | _ => false

section Words

variable {i : Instr}

theorem firstWord_of_dataInPointer (h : dataInPointer i = true) : firstWord i ∈ undefinedWords := by
  cases i with
  | ldXInc d | ldXDec d | stXInc d | stXDec d | ldYInc d | ldYDec d | stYInc d | stYDec d | ldZInc d | ldZDec d
  | stZInc d | stZDec d | lpmInc d | elpmInc d =>
    revert d
    decide
  | _ => cases h

/-- They are well-formed primaries of one word: operand combinations, not ill-formed operands. -/
theorem primary_of_dataInPointer (h : dataInPointer i = true) :
    expand i = i ∧ i.wellFormed = true ∧ isTwoWord (firstWord i) = false := by
  cases i with
  | ldXInc d | ldXDec d | stXInc d | stXDec d | ldYInc d | ldYDec d | stYInc d | stYDec d | ldZInc d | ldZDec d
  | stZInc d | stZDec d | lpmInc d | elpmInc d =>
    refine ⟨rfl, rfl, ?_⟩
    revert d
    decide
  | _ => cases h

/-- Each of the 28 words is the word of such an instruction. -/
theorem exists_dataInPointer : ∀ w ∈ undefinedWords, ∃ j, dataInPointer j = true ∧ firstWord j = w := by
  have hall : ∀ j ∈ undefinedInstrs, dataInPointer j = true := by decide
  have hwords : undefinedInstrs.map firstWord = undefinedWords := rfl
  intro w hw
  rw [← hwords] at hw
  obtain ⟨j, hj, rfl⟩ := List.mem_map.1 hw
  exact ⟨j, hall j hj, rfl⟩

/-- A primary of one word is what its word decodes to. -/
theorem decodeWords_firstWord (hexpand : expand i = i) (hwf : i.wellFormed = true) (hone : isTwoWord (firstWord i) = false) :
    decodeWords (firstWord i) 0#16 = some i := by
  obtain ⟨w, row, hrow, h⟩ := decodeBytes_eq_instr (decodes_of_primary i hexpand hwf [])
  have hword (w2 : Word) : firstWord (row.build w w2) = w := by
    obtain ⟨-, -, hencode⟩ := encode_of_decodeRow (w2 := w2) hrow
    rw [firstWord, hencode]
    cases isTwoWord w <;> rfl
  rcases h with ⟨htwo, w2, rfl, -⟩ | ⟨-, rfl, -⟩
  · rw [hword, htwo] at hone
    cases hone
  · rw [hword]
    exact decodeWords_eq_some.2 ⟨row, hrow, rfl⟩

/-- No two primaries of one word share it. -/
theorem dataInPointer_of_primary (hexpand : expand i = i) (hwf : i.wellFormed = true)
    (h : firstWord i ∈ undefinedWords) : dataInPointer i = true := by
  obtain ⟨j, hdata, hj⟩ := exists_dataInPointer _ h
  obtain ⟨hexpand', hwf', hone⟩ := primary_of_dataInPointer hdata
  have hi := decodeWords_firstWord hexpand hwf (hj ▸ hone)
  rw [← hj, decodeWords_firstWord hexpand' hwf' hone] at hi
  cases hi
  exact hdata

end Words

/-- The bits `1001 00` that the 28 words begin with. -/
def undefinedPattern : BitPattern := ⟨0xFC00#16, 0x9000#16⟩

theorem matches_undefinedPattern : ∀ w ∈ undefinedWords, undefinedPattern.Matches w := by
  simp [undefinedWords, undefinedPattern, BitPattern.Matches]

/-- A format that fixes one of these bits differently. -/
theorem not_undefinedWord {α : Type} {mask pattern : Word} {valid : α → Bool} {enc : α → Word} {fields : Word → α}
    (L : Layout mask pattern valid enc fields) (a : α)
    (hclash : BitPattern.clashes ⟨mask, pattern⟩ undefinedPattern = true := by rfl) : enc a ∉ undefinedWords := fun h =>
  BitPattern.not_matches_of_clashes hclash (L.enc_and_mask a) (matches_undefinedPattern _ h)

/-- Operands out of their range do not make one of the 28 words of another format. -/
theorem firstWord_of_not_wellFormed {i : Instr} (h : i.wellFormed = false) : firstWord i ∉ undefinedWords := by
  cases i with
  | subi d K => exact not_undefinedWord (layoutRdK 0b0101#4) (d, K)
  | sbci d K => exact not_undefinedWord (layoutRdK 0b0100#4) (d, K)
  | andi d K => exact not_undefinedWord (layoutRdK 0b0111#4) (d, K)
  | cbr d K => exact not_undefinedWord (layoutRdK 0b0111#4) (d, 0xFF#8 - K)
  | ori d K | sbr d K => exact not_undefinedWord (layoutRdK 0b0110#4) (d, K)
  | cpi d K => exact not_undefinedWord (layoutRdK 0b0011#4) (d, K)
  | ldi d K => exact not_undefinedWord (layoutRdK 0b1110#4) (d, K)
  | ser d => exact not_undefinedWord (layoutRdK 0b1110#4) (d, 0xFF#8)
  | adiw d K => exact not_undefinedWord (layoutWordK 0b10010110#8) (d, K)
  | sbiw d K => exact not_undefinedWord (layoutWordK 0b10010111#8) (d, K)
  | muls d r => exact not_undefinedWord (layoutUpper 0b00000010#8) (d, r)
  | mulsu d r => exact not_undefinedWord (layoutMultiplier 0b00000011#8 0b0#1 0b0#1) (d, r)
  | fmul d r => exact not_undefinedWord (layoutMultiplier 0b00000011#8 0b0#1 0b1#1) (d, r)
  | fmuls d r => exact not_undefinedWord (layoutMultiplier 0b00000011#8 0b1#1 0b0#1) (d, r)
  | fmulsu d r => exact not_undefinedWord (layoutMultiplier 0b00000011#8 0b1#1 0b1#1) (d, r)
  | movw d r => exact not_undefinedWord (layoutPairs 0b00000001#8) (d, r)
  | _ => cases h

theorem dataInPointer_expand (i : Instr) : dataInPointer (expand i) = dataInPointer i := by
  cases i <;> rfl

/-- The 28 words are those of the instructions with the data register in their pointer (R229), aliases sharing the words
of their primaries. -/
theorem dataInPointer_iff (i : Instr) : dataInPointer i = true ↔ firstWord i ∈ undefinedWords := by
  refine ⟨firstWord_of_dataInPointer, fun h => ?_⟩
  obtain ⟨hencode, hwf, hexpand⟩ := expand_spec i
  cases hi : i.wellFormed with
  | false => exact absurd h (firstWord_of_not_wellFormed hi)
  | true =>
    rw [← dataInPointer_expand]
    exact dataInPointer_of_primary hexpand (hwf.trans hi) (by rwa [firstWord, hencode])

/-! ### What is refused with a word -/

/-- An operation is not refused for its operand combination. -/
def NoWordRefusal {α : Type} (r : Result α) : Prop := ∀ w, r ≠ .refused (.unpredictableWord w)

section NoWordRefusal

variable {α β : Type} {s : State}

theorem noWordRefusal_next (x : α) : NoWordRefusal (.next x) := nofun

theorem noWordRefusal_fault (e : Fault) : NoWordRefusal (α := α) (.fault e) := nofun

theorem noWordRefusal_address (a : Nat) : NoWordRefusal (α := α) (.refused (.unpredictableAddress a)) := nofun

theorem noWordRefusal_device (m : Mnemonic) : NoWordRefusal (α := α) (.refused (.deviceSpecific m)) := nofun

theorem NoWordRefusal.andThen {r : Result α} {f : α → Result β} (h : NoWordRefusal r) (hf : ∀ x, NoWordRefusal (f x)) :
    NoWordRefusal (Machine.andThen r f) := by
  cases r with
  | next x => exact hf x
  | fault e => exact noWordRefusal_fault e
  | refused e => exact fun w hw => h w (by injection hw with hw; rw [hw])

/-- An operation whose last step always answers. -/
theorem NoWordRefusal.andThen_next {r : Result α} (h : NoWordRefusal r) (g : α → β) :
    NoWordRefusal (Machine.andThen r fun x => .next (g x)) :=
  h.andThen fun x => noWordRefusal_next (g x)

theorem NoWordRefusal.ite {P : Prop} [Decidable P] {r q : Result α} (hr : NoWordRefusal r) (hq : NoWordRefusal q) :
    NoWordRefusal (if P then r else q) := by
  split
  · exact hr
  · exact hq

theorem memRead_noWordRefusal (s : State) (a : Nat) : NoWordRefusal (memRead s a) := by
  rcases memRead_next_or_fault s a with ⟨b, u, h⟩ | h <;> rw [h]
  · exact noWordRefusal_next _
  · exact noWordRefusal_fault _

theorem memWrite_noWordRefusal (s : State) (a : Nat) (v : Byte) : NoWordRefusal (memWrite s a v) := by
  unfold memWrite
  cases locate s.cfg a with
  | unmapped => exact noWordRefusal_fault _
  | _ => exact noWordRefusal_next _

theorem push8_noWordRefusal (s : State) (v : Byte) : NoWordRefusal (push8 s v) :=
  .ite (noWordRefusal_address _) ((memWrite_noWordRefusal _ _ _).andThen_next _)

theorem pop8_noWordRefusal (s : State) : NoWordRefusal (pop8 s) :=
  .ite (noWordRefusal_address _) (memRead_noWordRefusal _ _)

theorem callTo_noWordRefusal (s : State) (r t : PcWord) : NoWordRefusal (callTo s r t) :=
  .andThen_next ((push8_noWordRefusal _ _).andThen fun _ => (push8_noWordRefusal _ _).andThen fun _ =>
    .ite (push8_noWordRefusal _ _) (noWordRefusal_next _)) _

theorem popPc_noWordRefusal (s : State) : NoWordRefusal (popPc s) :=
  .andThen (.ite (pop8_noWordRefusal _) (noWordRefusal_next _)) fun _ =>
    (pop8_noWordRefusal _).andThen fun _ => (pop8_noWordRefusal _).andThen_next _

theorem skipIf_noWordRefusal (c : Bool) (s : State) : NoWordRefusal (skipIf c s) :=
  .ite (.andThen_next (.andThen_next (.ite (noWordRefusal_next _) (noWordRefusal_fault _)) _) _) (noWordRefusal_next _)

theorem branchIf_noWordRefusal (c : Bool) (k : BitVec 7) (s : State) : NoWordRefusal (branchIf c k s) :=
  .ite (noWordRefusal_next _) (noWordRefusal_next _)

theorem loadByte_noWordRefusal (s : State) (d : Reg) (a n : Nat) : NoWordRefusal (loadByte s d a n) :=
  (memRead_noWordRefusal s a).andThen_next _

theorem storeByte_noWordRefusal (s : State) (a : Nat) (v : Byte) (n : Nat) : NoWordRefusal (storeByte s a v n) :=
  (memWrite_noWordRefusal s a v).andThen_next _

theorem progByte_noWordRefusal (s : State) (b : Nat) : NoWordRefusal (progByte s b) :=
  .ite (noWordRefusal_next _) (noWordRefusal_fault _)

theorem spmApply_noWordRefusal (dev : SpmDevice) (op : SpmOp) (m : Mnemonic) (z : Nat) (s : State) :
    NoWordRefusal (spmApply dev op m z s) := by
  cases op with
  | erasePage | writeWord | writePage => exact .ite (noWordRefusal_next _) (noWordRefusal_device m)
  | fillBuffer | setLockBits => exact noWordRefusal_next _

theorem storeProgram_noWordRefusal (m : Mnemonic) (z : Nat) (s : State) : NoWordRefusal (storeProgram m z s) := by
  unfold storeProgram
  split
  · exact noWordRefusal_device m
  · split
    · exact noWordRefusal_device m
    · exact (spmApply_noWordRefusal _ _ m z s).andThen_next _

/-- An instruction is refused for its operand combination where the data register is in its pointer, and is refused as such. -/
def WordRefusalOnly (i : Instr) (r : Result State) : Prop :=
  ∀ w, r = .refused (.unpredictableWord w) → w = firstWord i ∧ dataInPointer i = true

theorem NoWordRefusal.only {r : Result State} (h : NoWordRefusal r) (i : Instr) : WordRefusalOnly i r :=
  fun w hw => absurd hw (h w)

/-- The check of the updating forms comes first (R229). -/
theorem wordRefusalOnly_ite {i : Instr} {c : Bool} {go : Result State} (hc : c = dataInPointer i) (hgo : NoWordRefusal go) :
    WordRefusalOnly i (if c then .refused (.unpredictableWord (firstWord i)) else go) := by
  cases c with
  | true =>
    intro w hw
    injection hw with hw
    injection hw with hw
    exact ⟨hw.symm, hc.symm⟩
  | false => exact hgo.only i

theorem guarded_wordRefusalOnly {p : Ptr} {d : Reg} {i : Instr} {a : Nat} {go : Result State}
    (hc : isPtrReg p d = dataInPointer i) (hgo : NoWordRefusal go) : WordRefusalOnly i (guarded s p d i a go) :=
  wordRefusalOnly_ite hc (.ite (noWordRefusal_address a) hgo)

theorem exec_wordRefusalOnly (i : Instr) (s : State) : WordRefusalOnly i (exec i s) := by
  cases i with
  | ldXInc | ldYInc | ldZInc => exact guarded_wordRefusalOnly rfl ((memRead_noWordRefusal _ _).andThen_next _)
  | ldXDec | ldYDec | ldZDec => exact guarded_wordRefusalOnly rfl (loadByte_noWordRefusal _ _ _ _)
  | stXInc | stYInc | stZInc => exact guarded_wordRefusalOnly rfl ((memWrite_noWordRefusal _ _ _).andThen_next _)
  | stXDec | stYDec | stZDec => exact guarded_wordRefusalOnly rfl (storeByte_noWordRefusal _ _ _ _)
  | lpmInc | elpmInc => exact wordRefusalOnly_ite rfl ((progByte_noWordRefusal _ _).andThen_next _)
  | lds | ldX | ldY | lddY | ldZ | lddZ => exact (loadByte_noWordRefusal _ _ _ _).only _
  | sts | stX | stY | stdY | stZ | stdZ => exact (storeByte_noWordRefusal _ _ _ _).only _
  | lpmR0 | lpm | elpmR0 | elpm => exact ((progByte_noWordRefusal _ _).andThen_next _).only _
  | push => exact ((push8_noWordRefusal _ _).andThen_next _).only _
  | pop => exact ((pop8_noWordRefusal _).andThen_next _).only _
  | rcall | icall | eicall | call => exact (callTo_noWordRefusal _ _ _).only _
  | ret | reti => exact ((popPc_noWordRefusal _).andThen_next _).only _
  | cpse | sbrc | sbrs | sbic | sbis => exact (skipIf_noWordRefusal _ _).only _
  | brbs | brbc | breq | brne | brcs | brcc | brsh | brlo | brmi | brpl | brge | brlt | brhs | brhc | brts | brtc | brvs
  | brvc | brie | brid => exact (branchIf_noWordRefusal _ _ _).only _
  | spm | espm => exact (storeProgram_noWordRefusal _ _ _).only _
  | _ => exact (noWordRefusal_next _).only _

end NoWordRefusal

theorem exec_of_dataInPointer {i : Instr} (h : dataInPointer i = true) (s : State) :
    exec i s = .refused (.unpredictableWord (firstWord i)) := by
  cases i with
  | ldXInc | ldYInc | ldZInc | ldXDec | ldYDec | ldZDec | stXInc | stYInc | stZInc | stXDec | stYDec | stZDec | lpmInc
  | elpmInc => exact if_pos h
  | _ => cases h

/-- Settles O35: the 28 words are those of the instructions whose data register is in the pointer they update, and these are what
is refused with a word. -/
theorem undefinedCombinationsRefused : Obligations.undefined_combinations_refused := by
  refine ⟨fun s i h => exec_of_dataInPointer ((dataInPointer_iff i).2 h) s, fun s i w h => ?_⟩
  obtain ⟨rfl, hdata⟩ := exec_wordRefusalOnly i s w h
  exact ⟨rfl, (dataInPointer_iff i).1 hdata⟩

end Sys2Proof.Machine

/-! Left shifts, single bits and MCU control: the obligations O9 and O44 to O47. The bit operations on a byte are said once
(`getLsbD_setBit`); each pair of instructions below differs in one value only. -/

namespace Sys2Proof.Machine

/-! ### LSL and ROL (R281, R283) -/

theorem rolByte_toNat (a : Byte) (c : Bool) : (rolByte a c).toNat = (2 * a.toNat + c.toNat) % 256 := by
  rw [← add8_self_result, add8_result_toNat, Nat.two_mul]

/-- The flags of the left shifts are H, S, V, N, Z and C (R281, R283). -/
theorem getFlag_setFlagsShiftLeft (x a r : Byte) (g : Flag) :
    getFlag (setFlagsShiftLeft x a r) g =
      if g = .S then (r.msb ^^ (r.msb ^^ a.msb)) else if g = .V then (r.msb ^^ a.msb) else if g = .Z then r == 0
      else if g = .N then r.msb else if g = .C then a.msb else if g = .H then a.getLsbD 3 else getFlag x g := by
  simp only [setFlagsShiftLeft, getFlag_setNZS, getFlag_setFlag]

/-- What a left shift answers, `r` being the shifted register. -/
theorem finishReg_setFlagsShiftLeft (s : State) (d : Reg) (r : Byte) :
    ∃ t, finishReg s d r (setFlagsShiftLeft s.sreg (s.reg d) r) = .next t ∧ t.reg d = r ∧
      t.flag .C = (s.reg d).getLsbD 7 ∧ t.flag .H = (s.reg d).getLsbD 3 ∧ t.flag .N = (t.reg d).getLsbD 7 ∧
      t.flag .Z = decide (t.reg d = 0) ∧ t.flag .V = (t.flag .N ^^ t.flag .C) ∧
      t.flag .S = (t.flag .N ^^ t.flag .V) ∧ t.pc = s.pcPlus 1 ∧ OnlyChanged [d] arithFlags s t := by
  refine ⟨_, finishReg_eq _ _ _ _, afterReg_reg_same _ _ _ _, ?C, ?H, ?N, ?Z, ?V, ?S, afterReg_pc _ _ _ _,
    onlyChanged_afterReg _ _ _ _ _ (setFlagsShiftLeft_keeps _ _ _)⟩
  all_goals simp [getFlag_setFlagsShiftLeft, Bool.beq_eq_decide_eq, msb_eq_getLsbD_seven]

/-- Settles O9: the two shifts differ in the bit that enters at bit 0. -/
theorem shiftLeftResults : Obligations.shift_left_results := by
  intro s d
  refine ⟨?lsl, ?rol⟩
  case lsl =>
    obtain ⟨t, ht, hreg, hrest⟩ := finishReg_setFlagsShiftLeft s d (s.reg d <<< 1)
    exact ⟨t, ht, by rw [hreg, ← rolByte_false, rolByte_toNat]; rfl, hrest⟩
  case rol =>
    obtain ⟨t, ht, hreg, hrest⟩ := finishReg_setFlagsShiftLeft s d (rolByte (s.reg d) (s.flag .C))
    exact ⟨t, ht, by rw [hreg, rolByte_toNat], hrest⟩

/-! ### Writing one bit of a byte (R66, R290) -/

/-- A bit after one bit of a byte is written: bits of a byte are numbered as the flags of SREG are. -/
theorem getLsbD_setBit (x : Byte) (b : BitVec 3) (v : Bool) {n : Nat} (hn : n < 8) :
    (setBit x b v).getLsbD n = if n = b.toNat then v else x.getLsbD n := by
  have hflag : (BitVec.ofNat 3 n).toNat = n := Nat.mod_eq_of_lt hn
  have hset : getFlag (setBit x b v) (BitVec.ofNat 3 n) = _ := getFlag_setFlag x b (BitVec.ofNat 3 n) v
  simpa only [getFlag, ← BitVec.toNat_inj, hflag] using hset

/-! ### SBI and CBI (R287, R288) -/

section IoSetBit

variable {s : State} {A : BitVec 6}

theorem hasOwnSetBit_iff (cfg : Config) (A : BitVec 6) :
    hasOwnSetBit cfg A = true ↔ ioOwner cfg A = .device ∧ A ∈ cfg.setBitIo := by
  simp [hasOwnSetBit]

theorem ioSetBit_own (h : ioOwner s.cfg A = .device ∧ A ∈ s.cfg.setBitIo) (b : BitVec 3) (v : Bool) :
    ioSetBit s A b v = s.setDevicePart (Config.deviceSetBit s.freeCount A b v s.devicePart) :=
  if_pos ((hasOwnSetBit_iff s.cfg A).2 h)

theorem ioSetBit_default (h : ¬ (ioOwner s.cfg A = .device ∧ A ∈ s.cfg.setBitIo)) (b : BitVec 3) (v : Bool) :
    ioSetBit s A b v = ioWrite (ioRead s A).2 A (setBit (ioRead s A).1 b v) :=
  if_neg (mt (hasOwnSetBit_iff s.cfg A).1 h)

/-- The state after SBI or CBI at a location with an IoSetBit of its own. -/
theorem ioSetBit_own_advance (h : ioOwner s.cfg A = .device ∧ A ∈ s.cfg.setBitIo) (b : BitVec 3) (v : Bool) :
    (ioSetBit s A b v).advance 1 =
      (s.setDevicePart (Config.deviceSetBit s.freeCount A b v s.devicePart)).setPc (s.pcPlus 1) := by
  rw [ioSetBit_own h]
  rfl

/-- The state after SBI or CBI at a location without an IoSetBit of its own: the byte written back differs in one bit. -/
theorem ioSetBit_default_results (h : ¬ (ioOwner s.cfg A = .device ∧ A ∈ s.cfg.setBitIo)) (b : BitVec 3) (v : Bool) :
    ((ioSetBit s A b v).advance 1).pc = s.pcPlus 1 ∧
      ∃ w : Byte, (∀ n < 8, w.getLsbD n = if n = b.toNat then v else (ioRead s A).1.getLsbD n) ∧
        (ioSetBit s A b v).advance 1 = (ioWrite (ioRead s A).2 A w).setPc ((ioSetBit s A b v).advance 1).pc := by
  rw [ioSetBit_default h]
  exact ⟨(ioWrite_pcPlus _ A _ 1).trans (ioRead_pcPlus s A 1), _, fun _ => getLsbD_setBit _ b v, rfl⟩

end IoSetBit

/-- Settles O44: the two instructions differ in the value of the bit written. -/
theorem sbiCbiResults : Obligations.sbi_cbi_results := by
  intro s A b
  refine ⟨fun hdefault => ⟨⟨_, rfl, ?sbi⟩, ⟨_, rfl, ?cbi⟩⟩, fun hdevice hown x hx => ?own⟩
  case sbi => exact ioSetBit_default_results hdefault b true
  case cbi => exact ioSetBit_default_results hdefault b false
  case own =>
    simp only [List.mem_cons, List.not_mem_nil, or_false] at hx
    rcases hx with rfl | rfl <;> exact congrArg Host.Outcome.next (ioSetBit_own_advance ⟨hdevice, hown⟩ b _)

/-! ### BST and BLD (R289, R290) -/

/-- Settles O45: BST writes the flag T only, BLD its register only. -/
theorem bstBldResults : Obligations.bst_bld_results := by
  intro s d b
  refine ⟨?bst, ?bld⟩
  case bst =>
    exact ⟨_, rfl, getFlag_setFlag_same _ _ _, rfl, onlyChanged_setSreg s _ 1 _ (setFlag_keeps _ _ _)⟩
  case bld =>
    have hreg : ((s.setReg d (setBit (s.reg d) b (s.flag .T))).advance 1).reg d = setBit (s.reg d) b (s.flag .T) :=
      State.setReg_reg_same s d _
    exact ⟨_, rfl, fun n hn => by rw [hreg, getLsbD_setBit _ _ _ hn], rfl, onlyChanged_setReg s d _ 1⟩

/-! ### Single flags (R293 to R310) -/

theorem writeFlag_results (s : State) (f : Flag) (v : Bool) :
    ∃ t, writeFlag f v s = .next t ∧ t.flag f = v ∧ t.pc = s.pcPlus 1 ∧ OnlyChanged [] [f] s t :=
  ⟨_, rfl, getFlag_setFlag_same _ _ _, rfl, onlyChanged_setSreg s _ 1 _ (setFlag_keeps _ _ _)⟩

/-- Settles O46: each of the eighteen instructions writes the one flag listed with it. -/
theorem flagInstructionResults : Obligations.flag_instruction_results := by
  intro s f x hx
  have hexec : exec x.1 s = writeFlag x.2.1 x.2.2 s := by fin_cases hx <;> rfl
  rw [hexec]
  exact writeFlag_results s x.2.1 x.2.2

/-! ### NOP, SLEEP and WDR (R311 to R313) -/

theorem sleepHolds_iff (s : State) :
    sleepHolds s = true ↔ ∃ m v, s.cfg.sleepHold = some (m, v) ∧ s.mcucr &&& m = v := by
  unfold sleepHolds
  cases s.cfg.sleepHold with
  | none => simp
  | some hold =>
    rw [beq_iff_eq]
    exact ⟨fun h => ⟨_, _, rfl, h⟩, fun ⟨_, _, e, h⟩ => by cases e; exact h⟩

/-- Settles O47: each moves the program counter; SLEEP also writes `sleeping`, WDR the watchdog timer. -/
theorem mcuControlResults : Obligations.mcu_control_results := by
  intro s
  refine ⟨⟨_, rfl, rfl, onlyChanged_setPc s _⟩, ⟨_, rfl, rfl, onlyChanged_setPc s _, fun hawake => ?holds⟩,
    ⟨_, rfl, rfl, rfl, onlyChanged_setPc s _⟩⟩
  case holds =>
    rw [← sleepHolds_iff, hawake, Bool.false_or]

end Sys2Proof.Machine

/-! Interrupts, the hold-off and the sleeping core: the obligations O50 to O53. Entry is a push like a call's, so what a call's push
leaves is used again; over SRAM a push leaves all but SRAM and SP, and a pop reads nothing else. -/

namespace Sys2Proof.Machine

/-! ### Which source is taken (R336, R338) -/

section Selection

variable {s : State} {n : Nat}

theorem lowestPending_eq_some_iff : lowestPending s = some n ↔
    n ∈ s.pending ∧ (1 ≤ n ∧ n ≤ s.cfg.vectors.length) ∧ ∀ m, 1 ≤ m → m < n → m ∉ s.pending := by
  simp only [lowestPending, Config.nvect, List.find?_range'_eq_some, List.mem_range'_1, Bool.not_eq_true',
    List.contains_eq_mem, decide_eq_true_eq, decide_eq_false_iff_not, Nat.lt_one_add_iff]

theorem lowestPending_eq_none_iff :
    lowestPending s = none ↔ ∀ n ∈ s.pending, n = 0 ∨ s.cfg.vectors.length < n := by
  simp only [lowestPending, Config.nvect, List.find?_range'_eq_none, Bool.not_eq_true', List.contains_eq_mem,
    decide_eq_false_iff_not]
  refine forall_congr' fun n => ⟨fun h hn => ?_, fun h hlow hhigh hn => ?_⟩
  · by_contra hrange
    exact h (by omega) (by omega) hn
  · have hrange := h hn
    omega

theorem interruptToTake_eq_lowestPending (hI : s.flag .I = true) (hfree : s.holdoff = false ∨ s.sleeping = true) :
    interruptToTake s = lowestPending s := by
  rw [interruptToTake, hI]
  rcases hfree with h | h <;> simp [h]

theorem interruptToTake_of_no_source (h : lowestPending s = none) : interruptToTake s = none := by
  rw [interruptToTake, h, ite_self]

theorem interruptToTake_of_disabled (hI : s.flag .I = false) : interruptToTake s = none := by
  rw [interruptToTake, hI]
  rfl

theorem interruptToTake_of_holdoff (hawake : s.sleeping = false) (h : s.holdoff = true) : interruptToTake s = none := by
  simp [interruptToTake, hawake, h]

end Selection

/-! ### The steps between instructions (R336, R350) -/

section BetweenInstructions

variable {s : State} {n : Nat}

theorem step_of_interruptToTake (hreset : resetDue s = false) (hn : interruptToTake s = some n) :
    step s = andThen (takeInterrupt n s) fun t => .next (tick t) := by
  simp [step, hreset, hn]

theorem step_of_waiting (hreset : resetDue s = false) (hnone : interruptToTake s = none) (hsleep : s.sleeping = true) :
    step s = .next (tick s) := by
  simp [step, hreset, hnone, hsleep]

end BetweenInstructions

/-! ### Entry (R337) -/

section Entry

variable {s t : State} {n : Nat}

/-- The state that entry leaves once the program counter is pushed. -/
def enterVector (n : Nat) (u : State) : State :=
  { u with sreg := setFlag u.sreg .I false, pending := u.pending.filter fun m => m != n,
           sleeping := false, pc := vector u.cfg n }

theorem enterVector_flag_I (n : Nat) (u : State) : (enterVector n u).flag .I = false := getFlag_setFlag_same _ _ _

theorem enterVector_flags (n : Nat) (u : State) : SameFlagsBut [.I] u (enterVector n u) := setFlag_keeps _ _ _

theorem mem_enterVector_pending {u : State} {m : Nat} :
    m ∈ (enterVector n u).pending ↔ m ∈ u.pending ∧ m ≠ n := by
  simp [enterVector]

theorem takeInterrupt_eq (n : Nat) (s : State) :
    takeInterrupt n s = andThen (pushPc s s.pc) fun u => .next (enterVector n u) := by
  cases hu : pushPc s s.pc with
  | next u => rw [takeInterrupt, hu, andThen_next, andThen_next, enterVector, (pushPc_keeps hu).cfg]
  | fault | refused => rw [takeInterrupt, hu]; rfl

theorem vector_of_getElem? {cfg : Config} {v : PcWord} (hv : cfg.vectors[n - 1]? = some v) :
    vector cfg n = wrapPc cfg v.toNat := by
  rw [vector, List.getD_eq_getElem?_getD, hv, Option.getD_some]

/-- A program counter that can be stacked is pushed as a call pushes its return address. -/
theorem exists_pushPc {r : PcWord} (hs : SpInRange s) (hr : r.toNat < 2 ^ s.cfg.pcBits)
    (hok : ∀ i, i < s.cfg.pcBytes → StackByteOk s (pushAddress s i)) :
    ∃ u, pushPc s r = .next u ∧ PushedPc s u r := by
  have hn := pcBytes_le s.cfg
  obtain ⟨u, hu, hpushed⟩ := exists_pushed (f := returnByte r) hs (by omega) hok
  exact ⟨u, (pushPc_eq_returnByte hr).trans hu, hpushed.pushedPc u.pc⟩

theorem pushPc_unmapped {r : PcWord} {i : Nat} (hs : SpInRange s) (hr : r.toNat < 2 ^ s.cfg.pcBits)
    (hi : i < s.cfg.pcBytes) (hok : ∀ j, j < i → StackByteOk s (pushAddress s j))
    (h : locate s.cfg (pushAddress s i) = .unmapped) : pushPc s r = .fault (.unmappedData (pushAddress s i)) := by
  have hn := pcBytes_le s.cfg
  rw [pushPc_eq_returnByte hr, pushBytes_unmapped hs hi (by omega) hok h]

end Entry

/-- Settles O50: the source is the lowest pending one, and the step pushes, enters the vector and ticks. -/
theorem interruptEntry : Obligations.interrupt_entry := by
  intro s n v hreset hI hfree hpc hn1 hv hn hlowest hs
  obtain ⟨hlt, -⟩ := List.getElem?_eq_some_iff.1 hv
  have htake : interruptToTake s = some n := (interruptToTake_eq_lowestPending hI hfree).trans
    (lowestPending_eq_some_iff.2 ⟨hn, ⟨hn1, by omega⟩, hlowest⟩)
  rw [step_of_interruptToTake hreset htake, takeInterrupt_eq]
  refine ⟨fun hok => ?entered, fun i hi hok h => ?fault⟩
  case entered =>
    obtain ⟨u, hu, hpushed⟩ := exists_pushPc hs hpc hok
    have hkeeps := pushPc_keeps hu
    rw [hu, andThen_next, andThen_next]
    refine ⟨tick (enterVector n u), u, rfl, hpushed, ?_, enterVector_flag_I n u, enterVector_flags n u, rfl,
      hkeeps.holdoff, fun m => mem_enterVector_pending, rfl⟩
    rw [← vector_of_getElem? hv, ← hkeeps.cfg]
    rfl
  case fault =>
    rw [pushPc_unmapped hs hpc hi hok h, andThen_fault, andThen_fault]

/-! ### A stack in SRAM -/

section SramStack

variable {s t : State}

theorem push8_over_sram {v : Byte} (hloc : locate s.cfg s.sp.toNat = .sram) (h : push8 s v = .next t) :
    t = { s with sram := t.sram, sp := t.sp } := by
  obtain ⟨-, u, hu, rfl⟩ := push8_next h
  rw [memWrite, hloc] at hu
  cases hu
  rfl

/-- Pushes over SRAM change SRAM and SP only. -/
theorem pushBytes_over_sram {vs : List Byte} (hs : SpInRange s)
    (hloc : ∀ i, i < vs.length → locate s.cfg (pushAddress s i) = .sram) (h : pushBytes vs s = .next t) :
    t = { s with sram := t.sram, sp := t.sp } := by
  induction vs generalizing s with
  | nil => cases h; rfl
  | cons v vs ih =>
    obtain ⟨u, hu, h⟩ := andThen_eq_next.1 h
    have hsu := push8_over_sram (pushAddress_zero hs ▸ hloc 0 (Nat.succ_pos _)) hu
    have hut := ih (push8_spInRange hu) (fun i hi => ?_) h
    · rw [hut, hsu]
    · rw [push8_cfg hu, pushAddress_of_push8 hu]
      exact hloc (i + 1) (Nat.succ_lt_succ hi)

theorem pushPc_over_sram {r : PcWord} (hs : SpInRange s)
    (hloc : ∀ i, i < s.cfg.pcBytes → locate s.cfg (pushAddress s i) = .sram) (h : pushPc s r = .next t) :
    t = { s with sram := t.sram, sp := t.sp } := by
  rw [pushPc_eq] at h
  exact pushBytes_over_sram hs (by rwa [returnBytes_length]) h

/-- The SRAM bytes that the next PCBYTES pops read, in their order. -/
def stackedBytes (s : State) : List Byte := (List.range s.cfg.pcBytes).map fun i => sramByte s (pullAddress s i)

theorem popPc_over_sram (hs : SpInRange s)
    (hloc : ∀ i, i < s.cfg.pcBytes → locate s.cfg (pullAddress s i) = .sram) :
    popPc s = .next (wrapPc s.cfg (joinBytes (stackedBytes s)),
      s.setSp (wrapSp s.cfg (s.sp + BitVec.ofNat 16 s.cfg.pcBytes))) := by
  have hlen : (stackedBytes s).length = s.cfg.pcBytes := by simp [stackedBytes]
  have hpop := popBytes_sram (vs := stackedBytes s) hs (by rwa [hlen]) fun i hi => by simp [stackedBytes]
  rw [hlen] at hpop
  rw [popPc_eq, hpop, andThen_next]

/-- After a push over SRAM the next pops stay in SRAM. -/
theorem pullAddress_sram_of_pushPc {r : PcWord} (hs : SpInRange s)
    (hloc : ∀ i, i < s.cfg.pcBytes → locate s.cfg (pushAddress s i) = .sram) (h : pushPc s r = .next t) :
    SpInRange t ∧ ∀ i, i < t.cfg.pcBytes → locate t.cfg (pullAddress t i) = .sram := by
  rw [pushPc_eq] at h
  obtain ⟨hcfg, hsp⟩ := pushBytes_cfg_sp hs h
  rw [returnBytes_length] at hsp
  refine ⟨by rw [SpInRange, hcfg, hsp, wrapSp_wrapSp], fun i hi => ?_⟩
  rw [hcfg] at hi ⊢
  rw [pullAddress_of_pushed hcfg hsp hi]
  exact hloc _ (by omega)

/-- Over SRAM a pop does not see what entry changes after its push. -/
theorem popPc_enterVector (n : Nat) (hs : SpInRange s)
    (hloc : ∀ i, i < s.cfg.pcBytes → locate s.cfg (pullAddress s i) = .sram) :
    popPc (enterVector n s) = andThen (popPc s) fun r => .next (r.1, enterVector n r.2) := by
  rw [popPc_over_sram hs hloc, andThen_next]
  exact popPc_over_sram (s := enterVector n s) hs hloc

end SramStack

/-- Settles O51: RETI pops what entry pushed, and entry and RETI write no flag but I. -/
theorem interruptThenReturn : Obligations.interrupt_then_return := by
  intro s t n hs hpc hloc h
  rw [takeInterrupt_eq] at h
  obtain ⟨u, hu, h⟩ := andThen_eq_next.1 h
  cases h
  obtain ⟨hsu, hlocu⟩ := pullAddress_sram_of_pushPc hs hloc hu
  have hpop : popPc (enterVector n u) = .next (s.pc, enterVector n (u.setSp s.sp)) := by
    rw [popPc_enterVector n hsu hlocu, popPc_after_pushPc hs hloc hu, andThen_next, wrapPc_of_lt _ _ hpc]
  have hframe := pushPc_over_sram hs hloc hu
  refine ⟨_, andThen_of_next hpop _, rfl, rfl, fun i _ => ?regs, getFlag_setFlag_same _ _ _, fun f hf => ?flags⟩
  case regs =>
    have hregs : u.regs = s.regs := by rw [hframe]
    exact congrArg (·[i.toNat]) hregs
  case flags =>
    have hsreg : u.sreg = s.sreg := by rw [hframe]
    have hentry := enterVector_flags n u f hf
    exact ((setFlag_keeps _ .I true f hf).trans hentry).trans (congrArg (getFlag · f) hsreg)

/-! ### The hold-off (R336, R342) -/

theorem holdsOff_iff {i : Instr} : holdsOff i = true ↔ i = .sei ∨ i = .bset Flag.I ∨ i = .reti := by
  cases i with
  | bset f => simp [holdsOff]
  | sei | reti => simp [holdsOff]
  | _ => exact iff_of_false nofun (by simp)

theorem holdoffAfter_iff {i : Instr} {s t : State} : holdoffAfter i s t = true ↔
    (i = .sei ∨ i = .bset Flag.I ∨ i = .reti) ∨ (s.flag .I = false ∧ t.flag .I = true) := by
  rw [holdoffAfter, Bool.or_eq_true, Bool.and_eq_true, Bool.not_eq_true', holdsOff_iff]

/-- Settles O52: the step leaves the hold-off that `holdoffAfter` says, which masks every source while the core is awake. -/
theorem holdoffAfterEnabling : Obligations.holdoff_after_enabling := by
  intro s t i hreset hint hawake hfetch hexec
  refine ⟨afterInstruction i s t, ?runs, holdoffAfter_iff, fun hoff hawake => interruptToTake_of_holdoff hawake hoff⟩
  case runs =>
    rw [step_of_fetch_next hreset hint hawake hfetch, hexec, andThen_next]

/-! ### The sleeping core (R350) -/

/-- Settles O53: a sleeping core has no hold-off to mind, so it wakes exactly where I is set and a source is pending. -/
theorem sleepingCore : Obligations.sleeping_core := by
  intro s hreset
  refine ⟨interruptToTake_of_disabled, fun hsleep hidle => ?waits, fun hsleep hI hpending => ?wakes⟩
  case waits =>
    have hnone : interruptToTake s = none := hidle.elim interruptToTake_of_disabled fun hsources =>
      interruptToTake_of_no_source (lowestPending_eq_none_iff.2 hsources)
    exact ⟨tick s, step_of_waiting hreset hnone hsleep, rfl⟩
  case wakes =>
    have htake := interruptToTake_eq_lowestPending hI (.inr hsleep)
    cases hlow : lowestPending s with
    | none =>
      obtain ⟨m, hm, hm1, hmax⟩ := hpending
      have hrange := lowestPending_eq_none_iff.1 hlow m hm
      omega
    | some n =>
      obtain ⟨hn, ⟨hn1, hmax⟩, -⟩ := lowestPending_eq_some_iff.1 hlow
      exact ⟨n, hn, hn1, hmax, step_of_interruptToTake hreset (htake.trans hlow)⟩

end Sys2Proof.Machine

/-! Reset: the obligations O54 and O55. A reset that is due comes before everything else that a step can be. -/

namespace Sys2Proof.Machine

/-! ### When a reset is due (R346, R362) -/

section Reset

variable {s : State}

theorem resetDue_iff :
    resetDue s = true ↔ s.resetDemanded = true ∨ ∃ n, s.cfg.watchdogLimit = some n ∧ n ≤ s.watchdog := by
  rw [resetDue, Bool.or_eq_true]
  cases s.cfg.watchdogLimit with
  | none => simp
  | some limit => simp

theorem step_of_resetDue (h : resetDue s = true) : step s = .next (deviceReset s) := if_pos h

end Reset

/-! ### The state after reset (R41, R361) -/

/-- `RESET_PC` has 22 bits itself, so on every device, also where PCBITS is more than 22, nothing is lost beyond the reduction
modulo 2^PCBITS. -/
theorem powerOn_pc_toNat (cfg : Config) (image : Memory) :
    (State.powerOn cfg image).pc.toNat = cfg.resetPc.toNat % 2 ^ cfg.pcBits := by
  have hlt : cfg.resetPc.toNat % 2 ^ cfg.pcBits < 2 ^ 22 := (Nat.mod_le _ _).trans_lt cfg.resetPc.isLt
  rw [State.powerOn, BitVec.toNat_ofNat, Nat.mod_eq_of_lt hlt]

theorem powerOn_reg (cfg : Config) (image : Memory) (i : Reg) : (State.powerOn cfg image).reg i = 0 :=
  Vector.getElem_replicate i.isLt

/-! ### The obligations -/

/-- Settles O54: the step is the device's reset, which is a power on with the program kept. -/
theorem demandedReset : Obligations.demanded_reset := by
  intro s hdue
  exact ⟨deviceReset s, step_of_resetDue (resetDue_iff.2 hdue), powerOn_pc_toNat s.cfg s.prog,
    rfl, rfl, rfl, rfl, rfl, fun _ => rfl⟩

/-- Settles O55: reset is a power on of the reference configuration, with every memory empty. -/
theorem resetValues : Obligations.reset_values :=
  ⟨rfl, rfl, rfl, rfl, rfl, rfl, powerOn_reg Config.reference [], rfl, Memory.read_nil .sram, Memory.read_nil .prog⟩

end Sys2Proof.Machine
